-- ==== Sys2Proof/Word.lean ====
section
/-!
DEFINITION. The words the link carries (bytes, two-byte and four-byte fields) and the numbers of units, waterways, converters and counters (00_scope.md, Conventions).
-/

namespace Sys2Proof

abbrev Byte := BitVec 8
/-- A two-byte field. -/
abbrev Half := BitVec 16
/-- A four-byte field. -/
abbrev Word := BitVec 32

/-- A moment of the block's clock, in milliseconds (log 1). -/
abbrev Time := Nat

/-- Unit number 0..7. -/
abbrev UnitNo := Fin 8
/-- Waterway number 0..1. -/
abbrev WaterwayNo := Fin 2
/-- Starting converter number 0..1. -/
abbrev ConverterNo := Fin 2
/-- Duty counter number 0..3. -/
abbrev CounterNo := Fin 4

end Sys2Proof
end

