-- ==== Sys2Proof/Syntax.lean ====
section
/-!
DEFINITION. The commands of the block: one constructor of `Instr` per row of spec/opcode_table.json, with the data the event brings.
-/

namespace Sys2Proof

/-- The two link ports (chapter 9). -/
inductive PortName where
  | plant
  | unit
  deriving DecidableEq, Repr

/-- The reserve lines (chapter 6); in telegram fields A is 0 and B is 1. -/
inductive ReserveLine where
  | a
  | b
  deriving DecidableEq, Repr

/-- A telegram without its CRC, which the other bytes determine (section 9.7, R148; log 4).
LEN is the length of the payload. -/
structure Telegram where
  dst : Byte
  src : Byte
  kind : Byte
  ident : Half
  tag : Half
  payload : List Byte
  deriving DecidableEq, Repr

/-- Levels of the TRIP, OUT and RESERVE inputs (section 9.8); bit u of a byte is unit u's line. -/
structure Lines where
  trip : Byte
  out : Byte
  reserveA : Bool
  reserveB : Bool
  deriving DecidableEq, Repr

/-- The parts of a management request telegram that every request has: the header fields the sender
chooses, and the TABLE and INDEX fields (section 9.7, kind 0x03). -/
structure RequestHead where
  src : Byte
  ident : Half
  tag : Half
  table : Byte
  index : Half
  deriving DecidableEq, Repr

/-- The commands of the block (spec/opcode_table.json). A command about a telegram carries what the row
leaves open of it; a command about a line, a timer or a port names which. -/
inductive Instr where
  | powerOnReset (lines : Lines) (plantLinkOk unitLinkOk : Bool)
  | softReset (lines : Lines)
  | linkUp (p : PortName)
  | linkDown (p : PortName)
  | frameDiscarded (p : PortName) (bytes : List Byte)
  | droppedForeign (p : PortName) (t : Telegram)
  | dispatchOrder (src : Byte) (ident tag : Half) (payload : List Byte)
  | unitReport (dst src : Byte) (ident tag : Half) (payload : List Byte)
  | waterwayReport (dst src : Byte) (ident tag : Half) (payload : List Byte)
  | supervisoryTelegram (p : PortName) (t : Telegram)
  | transmitStart (p : PortName)
  | transmissionEnd (p : PortName)
  | tripLineAsserted (u : UnitNo)
  | tripLineCleared (u : UnitNo)
  | outInputSet (u : UnitNo)
  | outInputClear (u : UnitNo)
  | assertionEvent (line : ReserveLine)
  | reserveRelease (line : ReserveLine)
  | unitSilenceExpiry (u : UnitNo)
  | waterwaySilenceExpiry (w : WaterwayNo)
  | masterSilenceExpiry
  | phaseDeadlineExpiry (u : UnitNo)
  | waitDeadlineExpiry (u : UnitNo)
  | settleDeadlineReached (w : WaterwayNo)
  | orderExpiry (position : Fin 16)
  | rowDeadlineReached
  | dutySecond (u : UnitNo) (n : CounterNo)
  | identify (h : RequestHead) (data : List Byte)
  | status (h : RequestHead) (data : List Byte)
  | readTable (h : RequestHead) (data : List Byte)
  | writeTable (h : RequestHead) (data : List Byte)
  | commit (h : RequestHead) (data : List Byte)
  | uncommit (h : RequestHead) (data : List Byte)
  | setOut (h : RequestHead) (data : List Byte)
  | forceMode (h : RequestHead) (data : List Byte)
  | purgeOrder (h : RequestHead) (data : List Byte)
  | programStart (h : RequestHead) (data : List Byte)
  | programRenew (h : RequestHead) (data : List Byte)
  | programStop (h : RequestHead) (data : List Byte)
  | counterWrite (h : RequestHead) (data : List Byte)
  | globalFreezeSet (h : RequestHead)
  | globalFreezeClear (h : RequestHead)
  | unitFreezeSet (h : RequestHead)
  | unitFreezeClear (h : RequestHead)
  | clearOverflowLatches (h : RequestHead)
  | readClear (h : RequestHead) (data : List Byte)
  | reset (h : RequestHead) (data : List Byte)
  | noSuchRequest (h : RequestHead) (code : Byte) (data : List Byte)
  | shortManagementRequest (src : Byte) (ident tag : Half) (payload : List Byte)
  | requestWhileResetPending (src : Byte) (ident tag : Half) (payload : List Byte)
  | counterControlBadValue (h : RequestHead) (data : List Byte)
  deriving DecidableEq, Repr

end Sys2Proof
end

