-- ==== Sys2Proof/Config.lean ====
section
/-!
DEFINITION. What the manual leaves to the part: free values, with no body, so that no proof can see them.
-/

namespace Sys2Proof

/-- IDENTIFY byte 2 is "the part's revision number, 1..255" (R166); the manual does not give it.
The revision is this index plus one (log 8). -/
opaque Config.revisionIndex : Fin 255

/-- The part's revision number, 1..255 (R166). -/
def Config.revision : Byte := BitVec.ofNat 8 (Config.revisionIndex.val + 1)

/-- The bytes of a view whose content no rule states, drawn afresh at every read:
argument 1 is the read (`State.freeCount`), argument 2 the byte's place (log 7). -/
opaque Config.freeByte : Nat → Nat → Byte

/-- Whether a waterway's remaining silence time that is no whole number of tenths is rounded up
in table 19; R103 states no rounding (log 9). -/
opaque Config.waterwaySilenceRoundsUp : Bool

end Sys2Proof
end

