-- ==== Sys2Proof/Machine/Bytes.lean ====
section
/-!
DEFINITION. Byte order: multi-byte fields are sent most significant byte first (00_scope.md, Conventions; R165).
-/

namespace Sys2Proof

def hiByte (h : Half) : Byte := BitVec.extractLsb' 8 8 h
def loByte (h : Half) : Byte := BitVec.extractLsb' 0 8 h
def half (hi lo : Byte) : Half := hi ++ lo
def word (b3 b2 b1 b0 : Byte) : Word := b3 ++ b2 ++ b1 ++ b0

/-- A two-byte field as it is sent. -/
def halfBytes (h : Half) : List Byte := [hiByte h, loByte h]

/-- A four-byte field as it is sent. -/
def wordBytes (w : Word) : List Byte :=
  [BitVec.extractLsb' 24 8 w, BitVec.extractLsb' 16 8 w, BitVec.extractLsb' 8 8 w, BitVec.extractLsb' 0 8 w]

/-- Yes is 1 and no is 0 (R165). -/
def boolByte (b : Bool) : Byte := if b then 1 else 0

/-- A yes/no field: 1 is yes, 0 is no, any other byte is outside the field's range (R25, R139, R164). -/
def yesNo (b : Byte) : Option Bool :=
  if b = 0 then some false else if b = 1 then some true else none

/-- A number carried in one byte. -/
def natByte (n : Nat) : Byte := BitVec.ofNat 8 n

/-- A number carried in two bytes. -/
def natHalf (n : Nat) : Half := BitVec.ofNat 16 n

end Sys2Proof
end

