-- ==== Sys2Proof/Machine/Frame.lean ====
section
/-!
DEFINITION. The CRC (R148), the bytes of a telegram on the line (section 9.7), the receive checks (R150) and the routing of good telegrams (R135).
-/

namespace Sys2Proof.Machine

/-! ## The CRC -/

/-- One bit of the reflected register: the generator in its bit-reversed form 0xEDB88320 (R148). -/
def crcBit (r : Word) : Word :=
  if r.getLsbD 0 then (r >>> 1) ^^^ 0xEDB88320#32 else r >>> 1

/-- One byte, least significant bit first (R148). -/
def crcByte (r : Word) (b : Byte) : Word :=
  crcBit (crcBit (crcBit (crcBit (crcBit (crcBit (crcBit (crcBit (r ^^^ b.setWidth 32))))))))

/-- The CRC of R148: the register starts at all ones and is inverted at the end. -/
def crc (bytes : List Byte) : Word :=
  ~~~ bytes.foldl crcByte 0xFFFFFFFF#32

/-! ## Telegrams on the line -/

/-- LEN: the payload length (section 9.7). -/
def lenByte (t : Telegram) : Byte := natByte t.payload.length

/-- The header and payload as they are sent (section 9.7). -/
def telegramBody (t : Telegram) : List Byte :=
  [t.dst, t.src, t.kind, hiByte t.ident, loByte t.ident, hiByte t.tag, loByte t.tag, lenByte t] ++ t.payload

/-- A telegram as it is sent: header, payload, and CRC, most significant byte first (R148). -/
def telegramBytes (t : Telegram) : List Byte :=
  telegramBody t ++ wordBytes (crc (telegramBody t))

/-! ## The receive checks -/

/-- What the receive checks make of a frame (R150). -/
inductive FrameVerdict where
  | malformed
  | crcError
  | good (t : Telegram)
  deriving DecidableEq, Repr

/-- The telegram whose header and payload are `body`; a body shorter than a header gives none. -/
def parseBody : List Byte → Option Telegram
  | dst :: src :: kind :: i1 :: i0 :: t1 :: t0 :: _len :: payload =>
    some { dst, src, kind, ident := half i1 i0, tag := half t1 t0, payload }
  | _ => none

/-- The receive checks in their order: size, CRC, framing (R150). -/
def checkFrame (bytes : List Byte) : FrameVerdict :=
  let n := bytes.length
  if 76 < n then .malformed
  else if n ≤ 4 then .crcError
  else
    let body := bytes.take (n - 4)
    if bytes.drop (n - 4) ≠ wordBytes (crc body) then .crcError
    else if n < 12 then .malformed
    else
      let len := (body.getD 7 0).toNat
      if 64 < len ∨ n ≠ len + 12 then .malformed
      else
        match parseBody body with
        | some t => .good t
        | none => .malformed

/-! ## Routing -/

/-- What the Telegram Path does with a good telegram (R135). -/
inductive Routing where
  | order
  | request
  | unitReport
  | waterwayReport
  | supervisory
  | foreign
  deriving DecidableEq, Repr

/-- The routing table of R135. -/
def routeOf (p : PortName) (t : Telegram) : Routing :=
  if 0x10 ≤ t.kind.toNat then
    if t.dst = 0x01 then .foreign else .supervisory
  else
    match p with
    | .plant =>
      if t.kind = 0x01 ∧ t.dst = 0x01 then .order
      else if t.kind = 0x03 ∧ t.dst = 0x01 then .request
      else .foreign
    | .unit =>
      if t.kind = 0x06 then .unitReport
      else if t.kind = 0x08 then .waterwayReport
      else .foreign

/-! ## The telegrams that the telegram commands stand for -/

/-- A DISPATCH ORDER to 0x01 (section 9.7). -/
def orderTelegram (src : Byte) (ident tag : Half) (payload : List Byte) : Telegram :=
  { dst := 0x01, src, kind := 0x01, ident, tag, payload }

/-- A UNIT REPORT (section 9.7). -/
def unitReportTelegram (dst src : Byte) (ident tag : Half) (payload : List Byte) : Telegram :=
  { dst, src, kind := 0x06, ident, tag, payload }

/-- A WATERWAY REPORT (section 9.7). -/
def waterwayReportTelegram (dst src : Byte) (ident tag : Half) (payload : List Byte) : Telegram :=
  { dst, src, kind := 0x08, ident, tag, payload }

/-- A MANAGEMENT REQUEST to 0x01 with any payload (section 9.7). -/
def rawRequestTelegram (src : Byte) (ident tag : Half) (payload : List Byte) : Telegram :=
  { dst := 0x01, src, kind := 0x03, ident, tag, payload }

/-- A MANAGEMENT REQUEST to 0x01 with a whole request header (section 9.7). -/
def requestTelegram (h : RequestHead) (code : Byte) (data : List Byte) : Telegram :=
  rawRequestTelegram h.src h.ident h.tag ([code, h.table] ++ halfBytes h.index ++ data)

end Sys2Proof.Machine
end

