-- ==== Sys2Proof/Machine/State.lean ====
section
/-!
DEFINITION. The state of the DS-8: everything the manual gives the part, block by block, and its values after power-on reset.
-/

namespace Sys2Proof.Machine

/-- Why a step stops with a fault. The manual gives the part no fault: every event has an effect or none,
and errors are counted, answered or reported by status. The type therefore has no value, which is safe. -/
inductive Fault where
  deriving DecidableEq, Repr

/-- Why a step is refused. -/
inductive Refusal where
  /-- Raised by `exec`'s arm of a command that has no meaning yet; safe. No arm of this model raises it. -/
  | notModelled (mnemonic : String)
  deriving DecidableEq, Repr

/-! ## Names of the manual -/

/-- The settled modes (00_scope.md, Modes). -/
inductive Mode where
  | st
  | gen
  | pmp
  | scg
  | scp
  deriving DecidableEq, Repr

/-- A unit's MODE: a settled mode or one of the unavailable conditions (R1). -/
inductive UnitMode where
  | settled (m : Mode)
  | tripped
  | out
  | unknown
  deriving DecidableEq, Repr

/-- The ranked sources of claims (00_scope.md, Claims and ranks). -/
inductive Origin where
  | dispatch
  | schedule
  | reserve
  deriving DecidableEq, Repr

/-- CLAIM and KEEP of a phase (R27). -/
inductive Resources where
  | none
  | converter
  | waterway
  | both
  deriving DecidableEq, Repr

/-- The dispatcher states (R117). -/
inductive DispatcherState where
  | unplanned
  | directed
  | autonomous
  | draining
  deriving DecidableEq, Repr

/-- The event codes of the duty counters (R173). -/
inductive DutyEvent where
  | none
  | entriesGen
  | entriesPmp
  | entriesCondense
  | transitionsDone
  | transitionsFailed
  | cuts
  | phaseOverruns
  | trips
  | converterGrants
  | waterwayGrants
  | secondsGen
  | secondsPmp
  | secondsCondense
  | secondsMoving
  | holdDrops
  deriving DecidableEq, Repr

/-- DIRECTION of a match entry (R139). -/
inductive Direction where
  | down
  | up
  | both
  deriving DecidableEq, Repr

/-- The actions of the guard table (R141). -/
inductive GuardAction where
  | forward
  | drop
  | hold
  deriving DecidableEq, Repr

/-- The columns of the guard table (R141). -/
inductive GuardColumn where
  | st
  | gen
  | pmp
  | sc
  | moving
  | unavailable
  | nonUnit
  deriving DecidableEq, Repr

/-! ## The link ports (chapter 9) -/

/-- The two transmit queues of a port (R153). -/
inductive QueueName where
  | originated
  | forwarded
  deriving DecidableEq, Repr

/-- The telegram in transmission, the queue it came from, and whether its completion is counted
(it is not after a soft reset, R158). `ends` is the model's own: the moment at which an idle step ends the
transmission (log 16). -/
structure Transmission where
  telegram : Telegram
  queue : QueueName
  counted : Bool
  ends : Time
  deriving DecidableEq, Repr

/-- The eight port counters, in the order of R156; each saturates. -/
structure Counters where
  receivedGood : Word
  crcErrors : Word
  malformed : Word
  forwarded : Word
  droppedGuard : Word
  droppedForeign : Word
  originated : Word
  transmitDrops : Word
  deriving DecidableEq, Repr

/-- The state of one port (head of chapter 9; R154). -/
structure PortState where
  /-- Link state: true is UP. -/
  link : Bool
  /-- Level of the LINK_OK input as last sampled or reported. -/
  linkOk : Bool
  /-- While the 100 ms filter runs after a reset: the moment at which LINK_OK will have held (R154). -/
  linkFilter : Option Time
  originated : List Telegram
  forwarded : List Telegram
  transmitting : Option Transmission
  counters : Counters
  deriving DecidableEq, Repr

/-! ## The plan tables (chapters 1, 2, 3, 6, 7) -/

/-- The station entry of the plant table (R118). -/
structure Station where
  unitCount : Byte
  waterwayCount : Byte
  converterCount : Byte
  abortCommand : Byte
  setpointCommand : Byte
  masterSilence : Half
  waitLimitSchedule : Half
  waitLimitDispatch : Half
  waitLimitReserve : Half
  reserveDebounceA : Byte
  reserveDebounceB : Byte
  deriving DecidableEq, Repr

/-- A unit entry of the plant table (R118). -/
structure UnitEntry where
  waterway : WaterwayNo
  unitSilence : Half
  deriving DecidableEq, Repr

/-- A waterway entry of the plant table (R118). -/
structure WaterwayEntry where
  settleTime : Half
  waterwaySilence : Half
  deriving DecidableEq, Repr

/-- A route (R24). Bit u of `units` is unit u. -/
structure Route where
  enabled : Bool
  fromMode : Mode
  toMode : Mode
  units : Byte
  firstPhase : Fin 128
  phaseCount : Nat
  deriving DecidableEq, Repr

/-- A phase (R27). -/
structure Phase where
  command : Byte
  landing : Mode
  statusValue : Word
  statusMask : Word
  timeLimit : Half
  retries : Nat
  claim : Resources
  keep : Resources
  sendSetpoint : Bool
  deriving DecidableEq, Repr

/-- A recognition entry (R4). MODE accepts 0..15 at write (R164); 0..4 are the settled modes and 5 is TRIPPED. -/
structure Recognition where
  enabled : Bool
  mode : Fin 16
  units : Byte
  value : Word
  mask : Word
  deriving DecidableEq, Repr

/-- A pool (R49). -/
structure Pool where
  members : Byte
  selectCounter : CounterNo
  deriving DecidableEq, Repr

/-- A reserve entry (R108). Bit m of `apply` is mode m; `target` absent is NONE. -/
structure ReserveEntry where
  apply : BitVec 5
  target : Option Mode
  setpoint : Half
  deriving DecidableEq, Repr

/-- Plan tables 1 to 6. -/
structure PlanTables where
  station : Station
  unitEntries : Vector UnitEntry 8
  waterwayEntries : Vector WaterwayEntry 2
  routes : Vector Route 32
  phases : Vector Phase 128
  recognition : Vector Recognition 12
  pools : Vector Pool 4
  reserve : Vector ReserveEntry 16
  deriving DecidableEq, Repr

/-! ## The tables of the Telegram Path (chapter 8) -/

/-- A match entry (R139); KIND and LEN absent are ANY. -/
structure MatchEntry where
  enabled : Bool
  direction : Direction
  kind : Option Byte
  identValue : Half
  identMask : Half
  len : Option Byte
  dataValue0 : Byte
  dataValue1 : Byte
  dataMask0 : Byte
  dataMask1 : Byte
  cls : Fin 16
  deriving DecidableEq, Repr

/-- One class of the guard table: an action for each column (R141). -/
structure GuardRow where
  st : GuardAction
  gen : GuardAction
  pmp : GuardAction
  sc : GuardAction
  moving : GuardAction
  unavailable : GuardAction
  nonUnit : GuardAction
  deriving DecidableEq, Repr

/-! ## Unit records (chapters 1, 4, 6, 8) -/

/-- LAST_REPORT (R1). POWER is two's complement. -/
structure Report where
  statusWord : Word
  power : Half
  speed : Half
  deriving DecidableEq, Repr

/-- PHASE_STATE (R65). -/
inductive PhaseState where
  | waiting
  | running
  deriving DecidableEq, Repr

/-- The claim CUT names, by its origin and tag (R65): the queued unit-targeted order for the unit, or the
unit's pending reserve claim, whose tag is its line. -/
structure CutName where
  origin : Origin
  tag : Half
  deriving DecidableEq, Repr

/-- A transition record (R65). -/
structure Transition where
  unit : UnitNo
  route : Fin 32
  origin : Mode
  target : Mode
  source : Origin
  reference : Half
  setpoint : Half
  phaseNo : Nat
  phaseState : PhaseState
  retriesUsed : Nat
  deadline : Time
  heldConverter : Option ConverterNo
  heldWaterway : Option WaterwayNo
  lastLanding : Mode
  cut : Option CutName
  deriving DecidableEq, Repr

/-- A pending reserve claim (R110). -/
structure ReserveClaim where
  line : ReserveLine
  target : Mode
  setpoint : Half
  deriving DecidableEq, Repr

/-- A held telegram with the class and the arrival port it keeps (R143). -/
structure Held where
  telegram : Telegram
  cls : Fin 16
  port : PortName
  deriving DecidableEq, Repr

/-- A unit record (R1). -/
structure UnitRecord where
  mode : UnitMode
  configuredOut : Bool
  outInput : Bool
  tripInput : Bool
  silent : Bool
  silenceDeadline : Option Time
  lastReport : Option Report
  lastSetpoint : Half
  transition : Option Transition
  reserveClaim : Option ReserveClaim
  holdQueue : List Held
  tripSeen : Bool
  /-- While a debounce of the OUT line runs after the line was sampled asserted: the moment at which it will have held (R16). -/
  outDebounce : Option Time
  deriving DecidableEq, Repr

/-! ## The order queue (chapter 3) -/

/-- TARGET_TYPE and TARGET of an order (R41). -/
inductive Target where
  | unit (u : UnitNo)
  | pool (p : Fin 4)
  deriving DecidableEq, Repr

/-- An order record (R41). -/
structure Order where
  tag : Half
  origin : Origin
  target : Target
  mode : Mode
  setpoint : Half
  expiry : Option Time
  age : Half
  deriving DecidableEq, Repr

/-! ## The Resource Arbiter (chapter 5) -/

/-- A wait-list entry (R89). `serial` orders requests made in one millisecond (log 13). -/
structure WaitEntry where
  unit : UnitNo
  rank : Nat
  requestTime : Time
  serial : Nat
  deriving DecidableEq, Repr

/-- Window state with its settle deadline (R95). -/
inductive Window where
  | free
  | held (u : UnitNo)
  | settling (deadline : Time)
  deriving DecidableEq, Repr

/-- What the arbiter holds for a waterway (R95). -/
structure Waterway where
  window : Window
  alarm : Bool
  alarmSeen : Bool
  silenceDeadline : Option Time
  lastLevel : Option Half
  wait : List WaitEntry
  deriving DecidableEq, Repr

/-! ## The Reserve Unit (chapter 6) -/

/-- A reserve line: its debounced level, its latch, and a debounce running after the line was sampled asserted (R107, R111, R116). -/
structure ReserveState where
  level : Bool
  seen : Bool
  debounce : Option Time
  deriving DecidableEq, Repr

/-! ## Dispatcher Control (chapter 7) -/

/-- One unit's entry of a schedule row (R127); an absent mode is KEEP. -/
structure RowEntry where
  mode : Option Mode
  setpoint : Half
  deriving DecidableEq, Repr

/-- A schedule row (R127). -/
structure Row where
  duration : Byte
  entries : Vector RowEntry 8
  deriving DecidableEq, Repr

/-- START, LENGTH and LOOP of a run (R128). -/
structure Run where
  start : Byte
  length : Half
  loop : Bool
  deriving DecidableEq, Repr

/-- The program state (R128). -/
structure Program where
  running : Bool
  run : Run
  currentRow : Byte
  rowDeadline : Option Time
  captured : Option Row
  pendingRun : Option Run
  deriving DecidableEq, Repr

/-! ## The Duty Monitor (chapter 11) -/

/-- The Duty Monitor's state of one unit (R172); the accumulators count milliseconds, 0 to just under one second. -/
structure Duty where
  value : Vector Word 4
  event : Vector DutyEvent 4
  enable : BitVec 4
  notify : BitVec 4
  freezeOnOverflow : Bool
  freeze : Bool
  latches : BitVec 4
  summary : Bool
  accumulator : Vector (Fin 1000) 4
  deriving DecidableEq, Repr

/-! ## The whole part -/

/-- The state of the DS-8, with the queue of commands that wait. -/
structure State where
  /-- Commands waiting, first in first out. -/
  pending : List Instr
  /-- The present moment (log 1). -/
  now : Time
  /-- Reads of views made so far; free bytes are drawn by it (log 7). -/
  freeCount : Nat
  /-- Wait-list entries made so far (log 13). -/
  requestSerial : Nat
  lines : Lines
  plantPort : PortState
  unitPort : PortState
  plan : PlanTables
  matchTable : Vector MatchEntry 24
  guardTable : Vector GuardRow 16
  units : Vector UnitRecord 8
  orders : List Order
  ageCount : Half
  converters : Vector (Option UnitNo) 2
  converterWait : List WaitEntry
  waterways : Vector Waterway 2
  reserveA : ReserveState
  reserveB : ReserveState
  dispatcher : DispatcherState
  masterDeadline : Option Time
  masterSilenceSeen : Bool
  schedule : Vector Row 256
  program : Program
  resetPending : Bool
  duty : Vector Duty 8
  globalFreeze : Bool
  deriving DecidableEq, Repr

/-! ## Values after power-on reset -/

/-- R156. -/
def Counters.zero : Counters := ⟨0, 0, 0, 0, 0, 0, 0, 0⟩

/-- A port after power-on reset (R158), with LINK_OK sampled at the end of reset (R154). -/
def PortState.powerOn (now : Time) (linkOk : Bool) : PortState :=
  { link := false, linkOk, linkFilter := if linkOk then some (now + 100) else none,
    originated := [], forwarded := [], transmitting := none, counters := Counters.zero }

/-- R118. -/
def Station.powerOn : Station :=
  { unitCount := 8, waterwayCount := 1, converterCount := 0, abortCommand := 0x01, setpointCommand := 0x02,
    masterSilence := 0, waitLimitSchedule := 600, waitLimitDispatch := 600, waitLimitReserve := 600,
    reserveDebounceA := 5, reserveDebounceB := 5 }

/-- R24. -/
def Route.powerOn : Route :=
  { enabled := false, fromMode := .st, toMode := .st, units := 0, firstPhase := 0, phaseCount := 1 }

/-- R27. -/
def Phase.powerOn : Phase :=
  { command := 0, landing := .st, statusValue := 0, statusMask := 0, timeLimit := 0, retries := 0,
    claim := .none, keep := .none, sendSetpoint := false }

/-- R4. -/
def Recognition.powerOn : Recognition :=
  { enabled := false, mode := 0, units := 0, value := 0, mask := 0 }

/-- The power-on values of plan tables 1 to 6 (R118, R24, R27, R4, R49, R108). -/
def PlanTables.powerOn : PlanTables :=
  { station := Station.powerOn
    unitEntries := Vector.replicate 8 { waterway := 0, unitSilence := 50 }
    waterwayEntries := Vector.replicate 2 { settleTime := 60, waterwaySilence := 50 }
    routes := Vector.replicate 32 Route.powerOn
    phases := Vector.replicate 128 Phase.powerOn
    recognition := Vector.replicate 12 Recognition.powerOn
    pools := Vector.replicate 4 { members := 0, selectCounter := 0 }
    reserve := Vector.replicate 16 { apply := 0, target := none, setpoint := 0 } }

/-- R139. -/
def MatchEntry.powerOn : MatchEntry :=
  { enabled := false, direction := .both, kind := none, identValue := 0, identMask := 0, len := none,
    dataValue0 := 0, dataValue1 := 0, dataMask0 := 0, dataMask1 := 0, cls := 1 }

/-- R141: FORWARD throughout. -/
def GuardRow.powerOn : GuardRow :=
  ⟨.forward, .forward, .forward, .forward, .forward, .forward, .forward⟩

/-- A unit record after power-on reset (R22), given the TRIP line's level, the silence deadline (none for a
unit not in service) and the end of the OUT line's debounce, if the line was found asserted. -/
def UnitRecord.powerOn (tripLine : Bool) (silenceDeadline outDebounce : Option Time) : UnitRecord :=
  { mode := .unknown, configuredOut := false, outInput := false, tripInput := tripLine, silent := false,
    silenceDeadline, lastReport := none, lastSetpoint := 0, transition := none, reserveClaim := none,
    holdQueue := [], tripSeen := false, outDebounce }

/-- A waterway after power-on reset (R104), given its silence deadline (none when not in service). -/
def Waterway.powerOn (silenceDeadline : Option Time) : Waterway :=
  { window := .free, alarm := false, alarmSeen := false, silenceDeadline, lastLevel := none, wait := [] }

/-- A reserve line after power-on reset (R116), given the end of its debounce if it was found asserted. -/
def ReserveState.powerOn (debounce : Option Time) : ReserveState :=
  { level := false, seen := false, debounce }

/-- R127. -/
def Row.powerOn : Row :=
  { duration := 60, entries := Vector.replicate 8 { mode := none, setpoint := 0 } }

/-- The program after either reset (R128). -/
def Program.reset : Program :=
  { running := false, run := { start := 0, length := 1, loop := false }, currentRow := 0,
    rowDeadline := none, captured := none, pendingRun := none }

/-- R179. -/
def Duty.powerOn : Duty :=
  { value := Vector.replicate 4 0, event := Vector.replicate 4 DutyEvent.none, enable := 0, notify := 0,
    freezeOnOverflow := false, freeze := false, latches := 0, summary := false,
    accumulator := Vector.replicate 4 0 }

/-- The end of a debounce of `ms` that a line found asserted starts at `now`. -/
def debounceFrom (now : Time) (asserted : Bool) (ms : Nat) : Option Time :=
  if asserted then some (now + ms) else none

/-- A unit's record after power-on reset at `now` with the lines sampled as `lines`: every unit is in service,
with a silence time of 5 s (R22, R118). -/
def UnitRecord.afterPowerOn (now : Time) (lines : Lines) (u : UnitNo) : UnitRecord :=
  UnitRecord.powerOn (lines.trip.getLsbD u.val) (some (now + 5000)) (debounceFrom now (lines.out.getLsbD u.val) 100)

/-- Every block at its power-on values (R22, R63, R104, R116, R133, R158, R171, R179 and the tables' rules), before
the sampled lines act. -/
def State.powerOn (now : Time) (lines : Lines) (plantLinkOk unitLinkOk : Bool) : State :=
  { pending := [], now, freeCount := 0, requestSerial := 0, lines
    plantPort := PortState.powerOn now plantLinkOk
    unitPort := PortState.powerOn now unitLinkOk
    plan := PlanTables.powerOn
    matchTable := Vector.replicate 24 MatchEntry.powerOn
    guardTable := Vector.replicate 16 GuardRow.powerOn
    units := #v[UnitRecord.afterPowerOn now lines 0, UnitRecord.afterPowerOn now lines 1,
      UnitRecord.afterPowerOn now lines 2, UnitRecord.afterPowerOn now lines 3,
      UnitRecord.afterPowerOn now lines 4, UnitRecord.afterPowerOn now lines 5,
      UnitRecord.afterPowerOn now lines 6, UnitRecord.afterPowerOn now lines 7]
    orders := [], ageCount := 0
    converters := Vector.replicate 2 none, converterWait := []
    waterways := #v[Waterway.powerOn (some (now + 5000)), Waterway.powerOn none]
    reserveA := ReserveState.powerOn (debounceFrom now lines.reserveA 50)
    reserveB := ReserveState.powerOn (debounceFrom now lines.reserveB 50)
    dispatcher := .unplanned, masterDeadline := none, masterSilenceSeen := false
    schedule := Vector.replicate 256 Row.powerOn
    program := Program.reset
    resetPending := false
    duty := Vector.replicate 8 Duty.powerOn, globalFreeze := false }

/-- No line asserted (log 6). -/
def Lines.clear : Lines := { trip := 0, out := 0, reserveA := false, reserveB := false }

/-- The machine right after power-on reset, with every input line clear (DESIGN CHOICE, log 6), at moment 0. -/
def State.reset : State := State.powerOn 0 Lines.clear false false

end Sys2Proof.Machine
end

