-- ==== Sys2Proof/Machine/Ops.lean ====
section
/-!
DEFINITION. The named operations over the state: access to the records, the port queues and counters (R152, R156), and the composing of every telegram the part originates (R61, R152, R180).
-/

namespace Sys2Proof.Machine

/-! ## Numbers -/

/-- Units 0 to 7 in unit order. -/
def unitNumbers : List UnitNo := [0, 1, 2, 3, 4, 5, 6, 7]
/-- Counters 0 to 3 in order. -/
def counterNumbers : List CounterNo := [0, 1, 2, 3]
/-- Waterways 0 and 1. -/
def waterwayNumbers : List WaterwayNo := [0, 1]
/-- Converters 0 and 1. -/
def converterNumbers : List ConverterNo := [0, 1]

/-- Bit u of a set of units (R165). -/
def hasUnit (units : Byte) (u : UnitNo) : Bool := units.getLsbD u.val

/-! ## Codes (00_scope.md, section 9.7, R165) -/

/-- The mode codes of 00_scope.md. -/
def modeCode : Mode → Byte
  | .st => 0
  | .gen => 1
  | .pmp => 2
  | .scg => 3
  | .scp => 4

/-- The settled mode with a code 0..4. -/
def modeOf (b : Byte) : Option Mode :=
  if b = 0 then some .st
  else if b = 1 then some .gen
  else if b = 2 then some .pmp
  else if b = 3 then some .scg
  else if b = 4 then some .scp
  else none

def unitModeCode : UnitMode → Byte
  | .settled m => modeCode m
  | .tripped => 5
  | .out => 6
  | .unknown => 7

/-- ORIGIN codes. -/
def originCode : Origin → Byte
  | .dispatch => 1
  | .schedule => 2
  | .reserve => 3

/-- The rank of a source: RESERVE 3, DISPATCH 2, SCHEDULE 1 (00_scope.md). -/
def rank : Origin → Nat
  | .dispatch => 2
  | .schedule => 1
  | .reserve => 3

/-- Line A is 0 and line B is 1. -/
def lineNumber : ReserveLine → Nat
  | .a => 0
  | .b => 1

/-- STATUS codes of a dispatch status (section 9.7). -/
inductive Status where
  | accepted
  | started
  | done
  | refused
  | superseded
  | expired
  | failed
  | cut
  | withdrawn
  deriving DecidableEq, Repr

def statusCode : Status → Byte
  | .accepted => 1
  | .started => 2
  | .done => 3
  | .refused => 4
  | .superseded => 5
  | .expired => 6
  | .failed => 7
  | .cut => 8
  | .withdrawn => 9

/-- REASON codes of a dispatch status (section 9.7). -/
inductive Reason where
  | none
  | malformed
  | notPlanned
  | draining
  | noSuchUnit
  | noSuchPool
  | badMode
  | unitUnavailable
  | queueFull
  | outranked
  | noRoute
  | phaseTimeout
  | resourceWait
  | unitTripped
  | unitOut
  | masterSilent
  | returnDirected
  | purged
  | uncommit
  deriving DecidableEq, Repr

def reasonCode : Reason → Byte
  | .none => 0
  | .malformed => 1
  | .notPlanned => 2
  | .draining => 3
  | .noSuchUnit => 4
  | .noSuchPool => 5
  | .badMode => 6
  | .unitUnavailable => 7
  | .queueFull => 8
  | .outranked => 9
  | .noRoute => 10
  | .phaseTimeout => 11
  | .resourceWait => 12
  | .unitTripped => 13
  | .unitOut => 14
  | .masterSilent => 15
  | .returnDirected => 16
  | .purged => 17
  | .uncommit => 18

/-- The alert kinds (R180). -/
inductive AlertKind where
  | trip
  | phaseOverrun
  | unitSilent
  | modeDrift
  | masterSilent
  | reserve
  | reserveIgnored
  | waterwayAlarm
  | counterOverflow
  | holdOverflow
  | drainDone
  deriving DecidableEq, Repr

def alertCode : AlertKind → Byte
  | .trip => 1
  | .phaseOverrun => 2
  | .unitSilent => 3
  | .modeDrift => 4
  | .masterSilent => 5
  | .reserve => 6
  | .reserveIgnored => 7
  | .waterwayAlarm => 8
  | .counterOverflow => 9
  | .holdOverflow => 10
  | .drainDone => 11

/-- RESULT codes of a management answer (section 9.7). -/
inductive Result where
  | ok
  | noSuchRequest
  | noSuchTable
  | badIndex
  | badValue
  | planLocked
  | busy
  | wrongState
  | commitFailed
  deriving DecidableEq, Repr

def resultCode : Result → Byte
  | .ok => 0
  | .noSuchRequest => 1
  | .noSuchTable => 2
  | .badIndex => 3
  | .badValue => 4
  | .planLocked => 5
  | .busy => 6
  | .wrongState => 7
  | .commitFailed => 8

/-- The EVENT codes (R173). -/
def eventCode : DutyEvent → Nat
  | .none => 0
  | .entriesGen => 1
  | .entriesPmp => 2
  | .entriesCondense => 3
  | .transitionsDone => 4
  | .transitionsFailed => 5
  | .cuts => 6
  | .phaseOverruns => 7
  | .trips => 8
  | .converterGrants => 9
  | .waterwayGrants => 10
  | .secondsGen => 11
  | .secondsPmp => 12
  | .secondsCondense => 13
  | .secondsMoving => 14
  | .holdDrops => 15

/-! ## Access to the records -/

namespace State

/-- Unit u's record. -/
def unit (s : State) (u : UnitNo) : UnitRecord := s.units[u.val]

/-- The state with unit u's record changed by f. -/
def updUnit (u : UnitNo) (f : UnitRecord → UnitRecord) (s : State) : State :=
  { s with units := s.units.set u.val (f s.units[u.val]) }

/-- The state with unit u's transition record, if it has one, changed by f. -/
def updTransition (u : UnitNo) (f : Transition → Transition) (s : State) : State :=
  s.updUnit u fun r => { r with transition := r.transition.map f }

/-- The Duty Monitor's record of unit u. -/
def dutyOf (s : State) (u : UnitNo) : Duty := s.duty[u.val]

def updDuty (u : UnitNo) (f : Duty → Duty) (s : State) : State :=
  { s with duty := s.duty.set u.val (f s.duty[u.val]) }

/-- Waterway w. -/
def waterway (s : State) (w : WaterwayNo) : Waterway := s.waterways[w.val]

def updWaterway (w : WaterwayNo) (f : Waterway → Waterway) (s : State) : State :=
  { s with waterways := s.waterways.set w.val (f s.waterways[w.val]) }

/-- The state of converter c: none is FREE, some u is GRANTED(u) (R88). -/
def converter (s : State) (c : ConverterNo) : Option UnitNo := s.converters[c.val]

def setConverter (c : ConverterNo) (x : Option UnitNo) (s : State) : State :=
  { s with converters := s.converters.set c.val x }

/-- A link port. -/
def port (s : State) : PortName → PortState
  | .plant => s.plantPort
  | .unit => s.unitPort

def updPort (p : PortName) (f : PortState → PortState) (s : State) : State :=
  match p with
  | .plant => { s with plantPort := f s.plantPort }
  | .unit => { s with unitPort := f s.unitPort }

/-- A reserve line. -/
def reserveLine (s : State) : ReserveLine → ReserveState
  | .a => s.reserveA
  | .b => s.reserveB

def updReserveLine (l : ReserveLine) (f : ReserveState → ReserveState) (s : State) : State :=
  match l with
  | .a => { s with reserveA := f s.reserveA }
  | .b => { s with reserveB := f s.reserveB }

/-- A unit whose number is below UNIT_COUNT is in service (R2). -/
def unitInService (s : State) (u : UnitNo) : Bool := u.val < s.plan.station.unitCount.toNat

/-- A waterway whose number is below WATERWAY_COUNT is in service (R95). -/
def waterwayInService (s : State) (w : WaterwayNo) : Bool := w.val < s.plan.station.waterwayCount.toNat

/-- A converter whose number is below CONVERTER_COUNT is in service (R88). -/
def converterInService (s : State) (c : ConverterNo) : Bool := c.val < s.plan.station.converterCount.toNat

/-- A time of the plant table in units of 0.1 s, counted from now. -/
def inTenths (s : State) (t : Half) : Time := s.now + 100 * t.toNat

/-- A time in whole seconds, counted from now. -/
def inSeconds (s : State) (t : Half) : Time := s.now + 1000 * t.toNat

/-- A deadline that has been reached (log 2). -/
def reached (s : State) (d : Option Time) : Bool :=
  match d with
  | some t => t ≤ s.now
  | none => false

/-- The waterway that unit u draws on (R96). -/
def waterwayOf (s : State) (u : UnitNo) : WaterwayNo := s.plan.unitEntries[u.val].waterway

end State

/-- A unit is available when its MODE is a settled mode and SILENT is clear (R3). -/
def UnitRecord.available (r : UnitRecord) : Bool :=
  match r.mode with
  | .settled _ => !r.silent
  | _ => false

/-- The out condition: OUT_INPUT or CONFIGURED_OUT (R16). -/
def UnitRecord.outCondition (r : UnitRecord) : Bool := r.outInput || r.configuredOut

/-! ## Port counters and queues -/

/-- A counter increased by n, keeping 4294967295 once it is reached (R156). -/
def saturate (w : Word) (n : Nat) : Word :=
  if 4294967295 ≤ w.toNat + n then 0xFFFFFFFF#32 else w + BitVec.ofNat 32 n

namespace State

/-- The counters of port p changed by f. -/
def updCounters (p : PortName) (f : Counters → Counters) (s : State) : State :=
  s.updPort p fun q => { q with counters := f q.counters }

def countReceivedGood (p : PortName) : State → State :=
  updCounters p fun c => { c with receivedGood := saturate c.receivedGood 1 }

def countCrcError (p : PortName) : State → State :=
  updCounters p fun c => { c with crcErrors := saturate c.crcErrors 1 }

def countMalformed (p : PortName) : State → State :=
  updCounters p fun c => { c with malformed := saturate c.malformed 1 }

/-- R138. -/
def countDroppedForeign (p : PortName) : State → State :=
  updCounters p fun c => { c with droppedForeign := saturate c.droppedForeign 1 }

/-- n telegrams dropped by the guard, a hold overflow or a hold discard (R138). -/
def countDroppedGuard (p : PortName) (n : Nat) : State → State :=
  updCounters p fun c => { c with droppedGuard := saturate c.droppedGuard n }

def countTransmitDrops (p : PortName) (n : Nat) : State → State :=
  updCounters p fun c => { c with transmitDrops := saturate c.transmitDrops n }

/-- Whether a telegram handed to port p's originated queue would be placed (R152). -/
def canOriginate (s : State) (p : PortName) : Bool :=
  (s.port p).link && (s.port p).originated.length < 16

/-- R152: a composed telegram is placed at the tail of the originated queue, or dropped and counted in
TRANSMIT_DROPS when the queue holds 16 telegrams or the link is DOWN. -/
def originate (p : PortName) (t : Telegram) (s : State) : State :=
  if s.canOriginate p then s.updPort p fun q => { q with originated := q.originated ++ [t] }
  else s.countTransmitDrops p 1

/-- R152, R137: a forwarded telegram is placed at the tail of port p's forwarded queue unchanged, or dropped and
counted when the queue holds 32 telegrams or the link is DOWN. -/
def forwardTo (p : PortName) (t : Telegram) (s : State) : State :=
  if (s.port p).link && (s.port p).forwarded.length < 32 then
    s.updPort p fun q => { q with forwarded := q.forwarded ++ [t] }
  else s.countTransmitDrops p 1

end State

/-- The other port: downstream telegrams go to the unit port and upstream ones to the plant port (R137). -/
def otherPort : PortName → PortName
  | .plant => .unit
  | .unit => .plant

/-! ## Telegrams the part originates (R152) -/

/-- UNIT of a status: a unit number, or 0xFF for none. -/
def unitByte (u : UnitNo) : Byte := natByte u.val

/-- UNIT for an order that names a unit, 0xFF for a pool order not yet started (R61). -/
def targetUnitByte : Target → Byte
  | .unit u => unitByte u
  | .pool _ => 0xFF

/-- The telegram of a dispatch status (R61, R152). -/
def statusTelegram (tag : Half) (st : Status) (r : Reason) (unit mode : Byte) (o : Origin) : Telegram :=
  { dst := 0x02, src := 0x01, kind := 0x02, ident := 0, tag
    payload := halfBytes tag ++ [statusCode st, reasonCode r, unit, mode, originCode o] }

/-- The telegram of an alert (R180). -/
def alertTelegram (k : AlertKind) (subject : Byte) (detail : Half) : Telegram :=
  { dst := 0x02, src := 0x01, kind := 0x09, ident := 0, tag := 0
    payload := [alertCode k, subject] ++ halfBytes detail }

/-- The telegram of a unit command to unit u (R28, R152). -/
def unitCommandTelegram (u : UnitNo) (command : Byte) (setpoint : Half) (converter route phase : Byte) : Telegram :=
  { dst := natByte (0x10 + u.val), src := 0x01, kind := 0x05, ident := 0, tag := 0
    payload := [command] ++ halfBytes setpoint ++ [converter, route, phase] }

/-- The telegram of a converter assignment; ACTION 1 is CONNECT and 2 is RELEASE (R91, R92). -/
def converterAssignTelegram (c : ConverterNo) (u : UnitNo) (action : Byte) : Telegram :=
  { dst := natByte (0x18 + c.val), src := 0x01, kind := 0x07, ident := 0, tag := 0
    payload := [unitByte u, action] }

/-- The telegram of a management answer (R159). -/
def answerTelegram (tag : Half) (request : Byte) (result : Result) (index : Half) (data : List Byte) : Telegram :=
  { dst := 0x02, src := 0x01, kind := 0x04, ident := 0, tag
    payload := [request, resultCode result] ++ halfBytes index ++ data }

namespace State

/-- R61: a dispatch status leaves through the plant port's originated queue. -/
def sendStatus (tag : Half) (st : Status) (r : Reason) (unit mode : Byte) (o : Origin) : State → State :=
  originate .plant (statusTelegram tag st r unit mode o)

/-- R180: an alert leaves through the plant port's originated queue. -/
def sendAlert (k : AlertKind) (subject : Byte) (detail : Half) : State → State :=
  originate .plant (alertTelegram k subject detail)

/-- R28: a unit command leaves through the unit port's originated queue. -/
def sendUnitCommand (u : UnitNo) (command : Byte) (setpoint : Half) (converter route phase : Byte) : State → State :=
  originate .unit (unitCommandTelegram u command setpoint converter route phase)

/-- R91, R92. -/
def sendConverterAssign (c : ConverterNo) (u : UnitNo) (action : Byte) : State → State :=
  originate .unit (converterAssignTelegram c u action)

/-- A setpoint command with the plant table's SETPOINT_COMMAND; LAST_SETPOINT takes the setpoint (R54, R73, R1). -/
def sendSetpointCommand (u : UnitNo) (setpoint : Half) (s : State) : State :=
  (s.sendUnitCommand u s.plan.station.setpointCommand setpoint 0xFF 0 0).updUnit u
    fun r => { r with lastSetpoint := setpoint }

end State

end Sys2Proof.Machine
end

