-- ==== Sys2Proof/Machine/Duty.lean ====
section
/-!
DEFINITION. The Duty Monitor (chapter 11): what can count, counting and overflow, and the changes of MODE reported to it (R3).
-/

namespace Sys2Proof.Machine
namespace State

/-- Counter n of unit u can count when n is in ENABLE, FREEZE is clear and GLOBAL_FREEZE is clear (R172). -/
def canCount (s : State) (u : UnitNo) (n : CounterNo) : Bool :=
  (s.dutyOf u).enable.getLsbD n.val && !(s.dutyOf u).freeze && !s.globalFreeze

/-- The EVENT of counter n of unit u. -/
def eventOf (s : State) (u : UnitNo) (n : CounterNo) : DutyEvent := (s.dutyOf u).event[n.val]

/-- The value of counter n of unit u. -/
def counterValue (s : State) (u : UnitNo) (n : CounterNo) : Word := (s.dutyOf u).value[n.val]

/-- Counter n of unit u increased by one; it wraps from 4294967295 to 0 (R172). -/
def increase (u : UnitNo) (s : State) (n : CounterNo) : State :=
  s.updDuty u fun d => { d with value := d.value.set n.val (d.value[n.val] + 1) }

/-- What an overflow of counter n of unit u does, in the order of R176. -/
def overflow (u : UnitNo) (s : State) (n : CounterNo) : State :=
  let s := s.updDuty u fun d => { d with latches := d.latches ||| BitVec.twoPow 4 n.val, summary := true }
  let s :=
    if (s.dutyOf u).notify.getLsbD n.val then
      s.sendAlert .counterOverflow (unitByte u) (natHalf (n.val * 256 + eventCode (s.eventOf u n)))
    else s
  if (s.dutyOf u).freezeOnOverflow then s.updDuty u fun d => { d with freeze := true } else s

/-- The counters `ns` of unit u are increased by one at one event; overflows are acted on once every one of
them has been increased (R175). Where several counters of the unit wrap at one event, no rule says which takes the
steps of R176 first: the model takes them in ascending counter number, a choice of its own (DESIGN CHOICE, log 26). -/
def countAll (u : UnitNo) (ns : List CounterNo) (s : State) : State :=
  let wrapped := ns.filter fun n => s.counterValue u n = 0xFFFFFFFF#32
  wrapped.foldl (overflow u) (ns.foldl (increase u) s)

/-- An event reported for unit u: every counter of u whose EVENT it is and which can count is increased (R173). -/
def dutyEvent (e : DutyEvent) (u : UnitNo) (s : State) : State :=
  s.countAll u (counterNumbers.filter fun n => s.eventOf u n = e && s.canCount u n)

/-- The event an entry into a mode is counted as, if any (R173). -/
def entryEvent : UnitMode → Option DutyEvent
  | .settled .gen => some .entriesGen
  | .settled .pmp => some .entriesPmp
  | .settled .scg => some .entriesCondense
  | .settled .scp => some .entriesCondense
  | .settled .st => none
  | .tripped => none
  | .out => none
  | .unknown => none

/-- MODE of unit u becomes m; a change is reported to the Duty Monitor (R3). -/
def changeMode (u : UnitNo) (m : UnitMode) (s : State) : State :=
  let old := (s.unit u).mode
  let s := s.updUnit u fun r => { r with mode := m }
  if old = m then s
  else
    match entryEvent m with
    | some e => s.dutyEvent e u
    | none => s

/-- The condition of a second event holds for unit u (R174). -/
def secondCondition (s : State) (u : UnitNo) (e : DutyEvent) : Bool :=
  let r := s.unit u
  s.unitInService u &&
    match e with
    | .secondsGen => r.transition.isNone && r.mode = .settled .gen
    | .secondsPmp => r.transition.isNone && r.mode = .settled .pmp
    | .secondsCondense => r.transition.isNone && (r.mode = .settled .scg || r.mode = .settled .scp)
    | .secondsMoving => r.transition.isSome
    | .none => false
    | .entriesGen => false
    | .entriesPmp => false
    | .entriesCondense => false
    | .transitionsDone => false
    | .transitionsFailed => false
    | .cuts => false
    | .phaseOverruns => false
    | .trips => false
    | .converterGrants => false
    | .waterwayGrants => false
    | .holdDrops => false

/-- The time that passes is measured for counter n of unit u: its condition holds and it can count (R174). -/
def measures (s : State) (u : UnitNo) (n : CounterNo) : Bool := s.secondCondition u (s.eventOf u n) && s.canCount u n

/-- One millisecond is measured for counter n of unit u, if its condition holds and it can count; the accumulator
that reaches one second gives it up (R174). -/
def measure (s : State) (u : UnitNo) (n : CounterNo) : State :=
  if s.measures u n then
    s.updDuty u fun d => { d with accumulator := d.accumulator.set n.val (d.accumulator[n.val] + 1) }
  else s

/-- One millisecond is measured for every counter (R174). -/
def measureAll (s : State) : State :=
  unitNumbers.foldl (fun s u => counterNumbers.foldl (fun s n => s.measure u n) s) s

/-- The time that passes completes a second of counter n of unit u: it is measured, and its last millisecond is the
only one that the accumulator lacks (R174; log 12). -/
def secondReady (s : State) (u : UnitNo) (n : CounterNo) : Bool :=
  s.measures u n && (s.dutyOf u).accumulator[n.val] = 999

/-- The counters of unit u whose second the passing millisecond completes. -/
def secondsOf (s : State) (u : UnitNo) : List CounterNo := counterNumbers.filter (s.secondReady u)

/-- The second that is taken leaves nothing in the accumulator of counter n of unit u (R174). -/
def takeSecond (u : UnitNo) (s : State) (n : CounterNo) : State :=
  s.updDuty u fun d => { d with accumulator := d.accumulator.set n.val 0 }

/-- A whole second of counter n's event is taken for unit u: every counter of u with that event whose second is
complete gives it up and is increased, at that same event (R174, R175; log 12). -/
def countSecond (u : UnitNo) (n : CounterNo) (s : State) : State :=
  let ns := counterNumbers.filter fun k => s.eventOf u k = s.eventOf u n && s.secondReady u k
  (ns.foldl (takeSecond u) s).countAll u ns

/-- One millisecond passes for the Duty Monitor: it is measured for every counter, and then each unit's completed
seconds are counted, in unit order. All completed seconds of a unit are of one event, since the conditions of R174
exclude each other (R174, R175; log 12). -/
def passTime (s : State) : State :=
  unitNumbers.foldl (fun t u => t.countAll u (s.secondsOf u)) s.measureAll

end State
end Sys2Proof.Machine
end

