-- ==== Sys2Proof/Machine/Arbiter.lean ====
section
/-!
DEFINITION. The running of a phase (R28, R29, R67 to R69) and the Resource Arbiter (chapter 5): requests, grants, releases and wait lists.
-/

namespace Sys2Proof.Machine

/-! ## Sets of resources (R27, R33) -/

def Resources.hasConverter : Resources → Bool
  | .none => false
  | .converter => true
  | .waterway => false
  | .both => true

def Resources.hasWaterway : Resources → Bool
  | .none => false
  | .converter => false
  | .waterway => true
  | .both => true

/-! ## Wait lists (R89, R93, R94) -/

/-- Grant order: higher rank first, then the request made earlier (R89). -/
def WaitEntry.before (a b : WaitEntry) : Bool :=
  b.rank < a.rank || (a.rank = b.rank && a.serial < b.serial)

/-- An entry put at its place in grant order (R89). -/
def placeEntry (e : WaitEntry) : List WaitEntry → List WaitEntry
  | [] => [e]
  | x :: xs => if e.before x then e :: x :: xs else x :: placeEntry e xs

/-- A list without unit u's entry (R93). -/
def withoutUnit (u : UnitNo) (l : List WaitEntry) : List WaitEntry :=
  l.filter fun e => e.unit ≠ u

/-- A list with the rank of unit u's entry changed, the entry moved to its place in grant order (R94). -/
def rerank (u : UnitNo) (r : Nat) (l : List WaitEntry) : List WaitEntry :=
  match l.find? fun e => e.unit = u with
  | some e => placeEntry { e with rank := r } (withoutUnit u l)
  | none => l

namespace State

/-! ## The current phase and its command -/

/-- The phase at number k of route r: entry FIRST_PHASE + k − 1 (R24). An index past 127, which no committed plan
gives (R36), reads as an entry at its power-on values (log 18). -/
def phaseAt (s : State) (r : Fin 32) (k : Nat) : Phase :=
  s.plan.phases[s.plan.routes[r.val].firstPhase.val + k - 1]?.getD Phase.powerOn

/-- The current phase of a transition (R65). -/
def currentPhase (s : State) (t : Transition) : Phase := s.phaseAt t.route t.phaseNo

/-- The number of phases of a transition's route (R24). -/
def phaseCount (s : State) (t : Transition) : Nat := s.plan.routes[t.route.val].phaseCount

/-- The CONVERTER field: the converter held, or 0xFF (R28). -/
def converterByte : Option ConverterNo → Byte
  | some c => natByte c.val
  | none => 0xFF

/-- The phase command of unit u's transition as it stands; with SEND_SETPOINT yes, LAST_SETPOINT takes the setpoint
sent (R28, R29, R69). -/
def sendPhaseCommand (u : UnitNo) (s : State) : State :=
  match (s.unit u).transition with
  | none => s
  | some t =>
    let p := s.currentPhase t
    let setpoint := if p.sendSetpoint then t.setpoint else 0
    let s := s.sendUnitCommand u p.command setpoint (converterByte t.heldConverter) (natByte t.route.val)
      (natByte t.phaseNo)
    if p.sendSetpoint then s.updUnit u fun r => { r with lastSetpoint := t.setpoint } else s

/-- The current phase of unit u's transition becomes RUNNING (R69). -/
def becomeRunning (u : UnitNo) (s : State) : State :=
  match (s.unit u).transition with
  | none => s
  | some t =>
    let s := s.updTransition u fun t => { t with phaseState := .running }
    let s := s.sendPhaseCommand u
    s.updTransition u fun t' => { t' with deadline := s.inTenths (s.currentPhase t).timeLimit }

/-! ## Requests and grants -/

/-- A wait-list entry for unit u with its transition's rank and the moment of the request (R89). -/
def newEntry (s : State) (u : UnitNo) : WaitEntry :=
  { unit := u
    rank := match (s.unit u).transition with
      | some t => rank t.source
      | none => 0
    requestTime := s.now
    serial := s.requestSerial }

/-- An entry for unit u enters the converter wait list (R90). -/
def waitForConverter (u : UnitNo) (s : State) : State :=
  { s with converterWait := placeEntry (s.newEntry u) s.converterWait, requestSerial := s.requestSerial + 1 }

/-- An entry for unit u enters waterway w's wait list (R96). -/
def waitForWindow (w : WaterwayNo) (u : UnitNo) (s : State) : State :=
  { (s.updWaterway w fun x => { x with wait := placeEntry (s.newEntry u) x.wait }) with
    requestSerial := s.requestSerial + 1 }

/-- The window grant of waterway w to the transition on unit u (R96). -/
def grantWindow (w : WaterwayNo) (u : UnitNo) (s : State) : State :=
  let s := s.updWaterway w fun x => { x with wait := withoutUnit u x.wait, window := .held u }
  let s := s.dutyEvent .waterwayGrants u
  let s := s.updTransition u fun t => { t with heldWaterway := some w }
  s.becomeRunning u

/-- The request of unit u's transition for the window of its waterway (R96). -/
def requestWindow (u : UnitNo) (s : State) : State :=
  let w := s.waterwayOf u
  if (s.waterway w).window = .free && !(s.waterway w).alarm then s.grantWindow w u
  else s.waitForWindow w u

/-- The current phase of unit u's transition asks for the window besides the converter: CLAIM names it and the
transition does not hold it (R33, R34). -/
def wantsWindow (s : State) (u : UnitNo) : Bool :=
  match (s.unit u).transition with
  | some t => (s.currentPhase t).claim.hasWaterway && t.heldWaterway.isNone
  | none => false

/-- The converter grant of converter c to the transition on unit u (R91, R68). -/
def grantConverter (c : ConverterNo) (u : UnitNo) (s : State) : State :=
  let s := { s with converterWait := withoutUnit u s.converterWait }
  let s := s.setConverter c (some u)
  let s := s.sendConverterAssign c u 1
  let s := s.dutyEvent .converterGrants u
  let s := s.updTransition u fun t => { t with heldConverter := some c }
  if s.wantsWindow u then s.requestWindow u else s.becomeRunning u

/-- The lowest-numbered FREE converter in service (R90). -/
def freeConverter (s : State) : Option ConverterNo :=
  converterNumbers.find? fun c => s.converterInService c && (s.converter c).isNone

/-- The request of unit u's transition for a converter (R90). -/
def requestConverter (u : UnitNo) (s : State) : State :=
  match s.freeConverter with
  | some c => s.grantConverter c u
  | none => s.waitForConverter u

/-! ## Releases -/

/-- The converter that unit u's transition holds, if any, is released: it becomes FREE, RELEASE is sent, and it is
granted to the head of the wait list (R92). -/
def releaseConverter (u : UnitNo) (s : State) : State :=
  match (s.unit u).transition with
  | none => s
  | some t =>
    match t.heldConverter with
    | none => s
    | some c =>
      let s := s.updTransition u fun t => { t with heldConverter := none }
      let s := s.setConverter c none
      let s := s.sendConverterAssign c u 2
      match s.converterWait with
      | [] => s
      | e :: _ => s.grantConverter c e.unit

/-- Waterway w's window is granted to the head of its wait list if it is FREE, ALARM is clear and an entry waits
(R97, R98). -/
def serveWindow (w : WaterwayNo) (s : State) : State :=
  match (s.waterway w).wait with
  | [] => s
  | e :: _ =>
    if (s.waterway w).window = .free && !(s.waterway w).alarm then s.grantWindow w e.unit else s

/-- Waterway w's settle time (R97). -/
def settleTime (s : State) (w : WaterwayNo) : Half := s.plan.waterwayEntries[w.val].settleTime

/-- The window that unit u's transition holds, if any, is released and starts its settle time (R97). -/
def releaseWindow (u : UnitNo) (s : State) : State :=
  match (s.unit u).transition with
  | none => s
  | some t =>
    match t.heldWaterway with
    | none => s
    | some w =>
      let s := s.updTransition u fun t => { t with heldWaterway := none }
      if s.settleTime w = 0 then
        (s.updWaterway w fun x => { x with window := .free }).serveWindow w
      else s.updWaterway w fun x => { x with window := .settling (s.inSeconds (s.settleTime w)) }

/-- Unit u's wait-list entry, in whichever list it stands, is withdrawn; a withdrawal grants nothing (R93). -/
def withdrawEntry (u : UnitNo) (s : State) : State :=
  let s := { s with converterWait := withoutUnit u s.converterWait }
  waterwayNumbers.foldl (fun s w => s.updWaterway w fun x => { x with wait := withoutUnit u x.wait }) s

/-- Unit u's wait-list entry takes a new rank and moves by it (R94). -/
def rerankEntry (u : UnitNo) (r : Nat) (s : State) : State :=
  let s := { s with converterWait := rerank u r s.converterWait }
  waterwayNumbers.foldl (fun s w => s.updWaterway w fun x => { x with wait := rerank u r x.wait }) s

/-! ## Phase start -/

/-- The wait limit for a source's rank (R67, section 5.4). -/
def waitLimit (s : State) : Origin → Half
  | .schedule => s.plan.station.waitLimitSchedule
  | .dispatch => s.plan.station.waitLimitDispatch
  | .reserve => s.plan.station.waitLimitReserve

/-- The phase start of phase number k of unit u's transition (R67). -/
def phaseStart (u : UnitNo) (k : Nat) (s : State) : State :=
  match (s.unit u).transition with
  | none => s
  | some t =>
    let claim := (s.phaseAt t.route k).claim
    let asksConverter := claim.hasConverter && t.heldConverter.isNone
    let asksWindow := claim.hasWaterway && t.heldWaterway.isNone
    let s := s.updTransition u fun t => { t with phaseNo := k, retriesUsed := 0 }
    if !asksConverter && !asksWindow then s.becomeRunning u
    else
      let s := s.updTransition u fun t =>
        { t with phaseState := .waiting, deadline := s.inSeconds (s.waitLimit t.source) }
      if asksConverter then s.requestConverter u else s.requestWindow u

end State
end Sys2Proof.Machine
end

