-- ==== Sys2Proof/Machine/Guard.lean ====
section
/-!
DEFINITION. Supervisory telegrams (chapter 8): classification, the guard, hold queues, and what becomes of held telegrams.
-/

namespace Sys2Proof.Machine

/-- DIRECTION accepts the port a telegram arrived on (R139). -/
def Direction.accepts : Direction → PortName → Bool
  | .down, .plant => true
  | .down, .unit => false
  | .up, .plant => false
  | .up, .unit => true
  | .both, _ => true

/-- A payload byte agrees with a value in every bit of a mask; an absent byte agrees only under a zero mask (R140). -/
def byteAgrees (b : Option Byte) (value mask : Byte) : Bool :=
  match b with
  | some x => (x ^^^ value) &&& mask = 0
  | none => mask = 0

/-- An enabled entry matches a telegram (R140). -/
def MatchEntry.matchesTelegram (e : MatchEntry) (p : PortName) (t : Telegram) : Bool :=
  e.enabled && e.direction.accepts p &&
    (match e.kind with
      | some k => k = t.kind
      | none => true) &&
    (t.ident ^^^ e.identValue) &&& e.identMask = 0 &&
    (match e.len with
      | some n => n.toNat = t.payload.length
      | none => true) &&
    byteAgrees t.payload[0]? e.dataValue0 e.dataMask0 && byteAgrees t.payload[1]? e.dataValue1 e.dataMask1

/-- The action of a guard row for a column (R141). -/
def GuardRow.action (g : GuardRow) : GuardColumn → GuardAction
  | .st => g.st
  | .gen => g.gen
  | .pmp => g.pmp
  | .sc => g.sc
  | .moving => g.moving
  | .unavailable => g.unavailable
  | .nonUnit => g.nonUnit

/-- The column of a settled mode (R142). -/
def modeColumn : Mode → GuardColumn
  | .st => .st
  | .gen => .gen
  | .pmp => .pmp
  | .scg => .sc
  | .scp => .sc

/-- The column of a unit record (R142). -/
def UnitRecord.column (r : UnitRecord) : GuardColumn :=
  match r.mode with
  | .out => .unavailable
  | .tripped => .unavailable
  | .unknown => .unavailable
  | .settled m => if r.transition.isSome then .moving else modeColumn m

namespace State

/-- The class of a supervisory telegram: that of the first matching entry, else 0 (R140). -/
def classify (s : State) (p : PortName) (t : Telegram) : Fin 16 :=
  match s.matchTable.toList.find? fun e => e.matchesTelegram p t with
  | some e => e.cls
  | none => 0

/-- The unit in service at a station address, if any (R142). -/
def unitAt (s : State) (addr : Byte) : Option UnitNo :=
  unitNumbers.find? fun u => s.unitInService u && addr = natByte (0x10 + u.val)

/-- The station a supervisory telegram concerns: DST downstream, SRC upstream (R142). -/
def concerned (p : PortName) (t : Telegram) : Byte :=
  match p with
  | .plant => t.dst
  | .unit => t.src

/-- The action for class k in column c (R143). -/
def guardAction (s : State) (k : Fin 16) (c : GuardColumn) : GuardAction := s.guardTable[k.val].action c

/-- A telegram is to be held for unit u (R144). -/
def hold (u : UnitNo) (p : PortName) (k : Fin 16) (t : Telegram) (s : State) : State :=
  if (s.unit u).holdQueue.length < 4 then
    s.updUnit u fun r => { r with holdQueue := r.holdQueue ++ [{ telegram := t, cls := k, port := p }] }
  else
    let s := s.countDroppedGuard p 1
    let s := s.dutyEvent .holdDrops u
    s.sendAlert .holdOverflow (unitByte u) (natHalf (k.val * 256 + t.kind.toNat))

/-- A supervisory telegram that arrived on port p is classified, judged, and forwarded, dropped or held (R143). -/
def judge (p : PortName) (t : Telegram) (s : State) : State :=
  let k := s.classify p t
  match s.unitAt (concerned p t) with
  | none =>
    match s.guardAction k .nonUnit with
    | .drop => s.countDroppedGuard p 1
    | .forward => s.forwardTo (otherPort p) t
    | .hold => s.forwardTo (otherPort p) t
  | some u =>
    let c := (s.unit u).column
    match s.guardAction k c with
    | .forward => s.forwardTo (otherPort p) t
    | .drop => s.countDroppedGuard p 1
    | .hold => if p = .plant ∧ c = .moving then s.hold u p k t else s.forwardTo (otherPort p) t

/-- One held telegram is judged again for unit u (R145). -/
def judgeHeld (u : UnitNo) (s : State) (h : Held) : State :=
  match s.guardAction h.cls (s.unit u).column with
  | .forward => s.forwardTo (otherPort h.port) h.telegram
  | .hold => s.forwardTo (otherPort h.port) h.telegram
  | .drop => s.countDroppedGuard h.port 1

/-- Unit u's hold queue is judged again and empties (R145). -/
def rejudge (u : UnitNo) (s : State) : State :=
  let held := (s.unit u).holdQueue
  held.foldl (judgeHeld u) (s.updUnit u fun r => { r with holdQueue := [] })

/-- Unit u's hold queue is discarded on a trip, each telegram counted (R146). -/
def discardHeld (u : UnitNo) (s : State) : State :=
  let n := (s.unit u).holdQueue.length
  (s.updUnit u fun r => { r with holdQueue := [] }).countDroppedGuard .plant n

end State
end Sys2Proof.Machine
end

