-- ==== Sys2Proof/Machine/Transition.lean ====
section
/-!
DEFINITION. The Transition Engine (chapter 4): the end procedure up to its start attempt (R86), completion (R72, R73), timeouts (R74, R75).
-/

namespace Sys2Proof.Machine

/-- A status word agrees with a value in every bit set in a mask (R4, R30). -/
def wordMatches (w value mask : Word) : Bool := (w ^^^ value) &&& mask = 0

/-- The duty event of an end: DONE, CUT and FAILED ends report one (R86 step 3). -/
def endEvent : Status → Option DutyEvent
  | .done => some .transitionsDone
  | .cut => some .cuts
  | .failed => some .transitionsFailed
  | .accepted => none
  | .started => none
  | .refused => none
  | .superseded => none
  | .expired => none
  | .withdrawn => none

namespace State

/-- A status for the claim that transition t carries (R86 step 2). -/
def sendTransitionStatus (u : UnitNo) (t : Transition) (st : Status) (r : Reason) : State → State :=
  sendStatus t.reference st r (unitByte u) (modeCode t.target) t.source

/-- Steps 1 to 5 of the end procedure of unit u's transition: resources, status, duty event, record, hold queue.
`byTrip` discards the hold queue; every other end judges it again (R86). -/
def endTransition (u : UnitNo) (st : Status) (r : Reason) (byTrip : Bool) (s : State) : State :=
  match (s.unit u).transition with
  | none => s
  | some t =>
    let s := s.withdrawEntry u
    let s := s.releaseConverter u
    let s := s.releaseWindow u
    let s := s.sendTransitionStatus u t st r
    let s := match endEvent st with
      | some e => s.dutyEvent e u
      | none => s
    let s := s.updUnit u fun x => { x with transition := none }
    if byTrip then s.discardHeld u else s.rejudge u

/-- The modes in which a machine takes a setpoint command: GEN and PMP (R54, R73). -/
def takesSetpoint : Mode → Bool
  | .gen => true
  | .pmp => true
  | .st => false
  | .scg => false
  | .scp => false

/-- The setpoint command of R54 and R73: sent to a unit whose claim's mode is GEN or PMP when the claim's setpoint
differs from LAST_SETPOINT. -/
def settleSetpoint (u : UnitNo) (m : Mode) (setpoint : Half) (s : State) : State :=
  if takesSetpoint m && (s.unit u).lastSetpoint ≠ setpoint then s.sendSetpointCommand u setpoint else s

/-- Steps 1 and 2 of a completion: the resources the phase does not keep are released, and the unit lands (R72). -/
def land (u : UnitNo) (p : Phase) (s : State) : State :=
  let s := if p.keep.hasConverter then s else s.releaseConverter u
  let s := if p.keep.hasWaterway then s else s.releaseWindow u
  let s := s.updTransition u fun t => { t with lastLanding := p.landing }
  s.changeMode u (.settled p.landing)

/-- The current phase of unit u's transition completes (R72, R73, R81). The start attempt of an end comes later. -/
def completePhase (u : UnitNo) (s : State) : State :=
  match (s.unit u).transition with
  | none => s
  | some t =>
    let s' := s.land u (s.currentPhase t)
    if t.cut.isSome then s'.endTransition u .cut .none false
    else if t.phaseNo = s.phaseCount t then
      (s'.settleSetpoint u t.target t.setpoint).endTransition u .done .none false
    else s'.phaseStart u (t.phaseNo + 1)

/-- A phase is retried (R74). -/
def retryPhase (u : UnitNo) (t : Transition) (s : State) : State :=
  let s := s.updTransition u fun t => { t with retriesUsed := t.retriesUsed + 1 }
  let s := s.sendPhaseCommand u
  let s := s.updTransition u fun t' => { t' with deadline := s.inTenths (s.currentPhase t).timeLimit }
  let s := s.sendAlert .phaseOverrun (unitByte u) (natHalf (t.phaseNo * 256 + (t.retriesUsed + 1)))
  s.dutyEvent .phaseOverruns u

/-- A transition fails with PHASE_TIMEOUT: abort command, UNKNOWN, alert, duty event, end (R75). -/
def timeoutPhase (u : UnitNo) (t : Transition) (s : State) : State :=
  let s := s.sendUnitCommand u s.plan.station.abortCommand 0 0xFF 0 0
  let s := s.changeMode u .unknown
  let s := s.sendAlert .phaseOverrun (unitByte u) (natHalf (t.phaseNo * 256))
  let s := s.dutyEvent .phaseOverruns u
  s.endTransition u .failed .phaseTimeout false

/-- CUT of unit u's transition is cleared if it names the order or claim with this origin and tag (R79). -/
def clearCut (u : UnitNo) (o : Origin) (tag : Half) (s : State) : State :=
  s.updTransition u fun t => if t.cut = some { origin := o, tag } then { t with cut := none } else t

end State
end Sys2Proof.Machine
end

