-- ==== Sys2Proof/Machine/Orders.lean ====
section
/-!
DEFINITION. The Order Queue (chapter 3): route lookup, eligibility and selection, the start attempt and the pool pass, offers, acceptance, and orders that end in the queue.
-/

namespace Sys2Proof.Machine

/-- A claim as a start attempt or a transition sees it: where it waits, and what it asks (00_scope.md, Claim). -/
structure Claim where
  origin : Origin
  tag : Half
  mode : Mode
  setpoint : Half
  deriving DecidableEq, Repr

/-- The claim an order makes. -/
def Order.claim (o : Order) : Claim := { origin := o.origin, tag := o.tag, mode := o.mode, setpoint := o.setpoint }

/-- The claim a pending reserve claim makes: its ORIGIN is RESERVE and its tag the line (R110). -/
def ReserveClaim.claim (c : ReserveClaim) : Claim :=
  { origin := .reserve, tag := natHalf (lineNumber c.line), mode := c.target, setpoint := c.setpoint }

/-- The name CUT holds for a claim (R65). -/
def Claim.name (c : Claim) : CutName := { origin := c.origin, tag := c.tag }

/-- Where a waiting claim is held: the unit's reserve slot, or a position of the order queue. -/
inductive Slot where
  | reserve
  | queue (position : Nat)
  deriving DecidableEq, Repr

/-- Whether an order is a unit-targeted order for u. -/
def Order.isFor (u : UnitNo) (o : Order) : Bool := o.target = .unit u

namespace State

/-! ## Route lookup (R26) -/

/-- The lowest-indexed enabled route from m to n that serves unit u (R26). -/
def lookupRoute (s : State) (u : UnitNo) (m n : Mode) : Option (Fin 32) :=
  (List.finRange 32).find? fun r =>
    let e := s.plan.routes[r.val]
    e.enabled && e.fromMode = m && e.toMode = n && hasUnit e.units u

/-! ## Statuses of claims -/

/-- A status for a claim on unit u. -/
def sendClaimStatus (u : UnitNo) (c : Claim) (st : Status) (r : Reason) : State → State :=
  sendStatus c.tag st r (unitByte u) (modeCode c.mode) c.origin

/-- A status for a queued order (R61). -/
def sendOrderStatus (o : Order) (st : Status) (r : Reason) : State → State :=
  sendStatus o.tag st r (targetUnitByte o.target) (modeCode o.mode) o.origin

/-! ## Eligibility and selection (R51, R52) -/

/-- Unit u is eligible for a queued pool order of pool p asking mode n (R51). -/
def eligible (s : State) (p : Fin 4) (n : Mode) (u : UnitNo) : Bool :=
  let r := s.unit u
  hasUnit s.plan.pools[p.val].members u && s.unitInService u && r.available && r.transition.isNone &&
    (match r.mode with
      | .settled m => m ≠ n && (s.lookupRoute u m n).isSome
      | .tripped => false
      | .out => false
      | .unknown => false) &&
    !(s.orders.any fun o => o.isFor u) && r.reserveClaim.isNone

/-- The unit with the lowest counter value; among equals the one listed first (R52). -/
def lowestCounter (s : State) (n : CounterNo) : List UnitNo → Option UnitNo
  | [] => none
  | u :: us =>
    match s.lowestCounter n us with
    | none => some u
    | some v => if (s.counterValue v n).toNat < (s.counterValue u n).toNat then some v else some u

/-- Selection for a queued order: for a pool order, the eligible unit whose SELECT_COUNTER holds the lowest value
(R52); none for a unit-targeted order. -/
def selectUnit (s : State) (o : Order) : Option UnitNo :=
  match o.target with
  | .unit _ => none
  | .pool p => s.lowestCounter s.plan.pools[p.val].selectCounter (unitNumbers.filter (s.eligible p o.mode))

/-! ## The start attempt (R53 to R55) -/

/-- A queued order is a candidate for unit u: it is unit-targeted for u, or a pool order whose selection is u (R53). -/
def isCandidate (s : State) (u : UnitNo) (o : Order) : Bool := o.isFor u || s.selectUnit o = some u

/-- The position of the highest-ranked, oldest candidate among `os`, the first of which stands at position k (R53). -/
def bestCandidate (s : State) (u : UnitNo) : Nat → List Order → Option (Nat × Order)
  | _, [] => none
  | k, o :: os =>
    match s.bestCandidate u (k + 1) os with
    | none => if s.isCandidate u o then some (k, o) else none
    | some (j, b) => if s.isCandidate u o && rank b.origin ≤ rank o.origin then some (k, o) else some (j, b)

/-- The claim a start attempt for unit u takes: the pending reserve claim, of rank 3, before any queued order (R53). -/
def takenClaim (s : State) (u : UnitNo) : Option (Slot × Claim) :=
  match (s.unit u).reserveClaim with
  | some c => some (.reserve, c.claim)
  | none =>
    match s.bestCandidate u 0 s.orders with
    | some (k, o) => some (.queue k, o.claim)
    | none => none

/-- A claim leaves the queue, or RESERVE_CLAIM becomes absent (R54, R55). -/
def removeClaim (u : UnitNo) (slot : Slot) (s : State) : State :=
  match slot with
  | .reserve => s.updUnit u fun r => { r with reserveClaim := none }
  | .queue k => { s with orders := s.orders.eraseIdx k }

/-- The claim asks the mode u is in: setpoint command if needed, the claim leaves, DONE (R54). -/
def completeAtOnce (u : UnitNo) (slot : Slot) (c : Claim) (s : State) : State :=
  ((s.settleSetpoint u c.mode c.setpoint).removeClaim u slot).sendClaimStatus u c .done .none

/-- The claim has no route: it leaves and ends FAILED (R55). -/
def failNoRoute (u : UnitNo) (slot : Slot) (c : Claim) (s : State) : State :=
  (s.removeClaim u slot).sendClaimStatus u c .failed .noRoute

/-- The transition record a start attempt creates (R55, R66). PHASE_NO, PHASE_STATE, RETRIES_USED and the deadline
are set by the phase start that follows. -/
def newTransition (u : UnitNo) (m : Mode) (r : Fin 32) (c : Claim) (now : Time) : Transition :=
  { unit := u, route := r, origin := m, target := c.mode, source := c.origin, reference := c.tag,
    setpoint := c.setpoint, phaseNo := 1, phaseState := .waiting, retriesUsed := 0, deadline := now,
    heldConverter := none, heldWaterway := none, lastLanding := m, cut := none }

/-- The claim is started on route r from mode m (R55). -/
def startClaim (u : UnitNo) (m : Mode) (r : Fin 32) (slot : Slot) (c : Claim) (s : State) : State :=
  let s := s.removeClaim u slot
  let s := s.updUnit u fun x => { x with transition := some (newTransition u m r c s.now) }
  let s := s.sendClaimStatus u c .started .none
  s.phaseStart u 1

/-- The start attempt for unit u without its pool pass, with whether it started a transition or ended a claim. It
begins again after a claim completed at once or failed; each round takes a claim away, so `fuel` rounds suffice (R53 to R55). -/
def attemptLoop : Nat → UnitNo → State → State × Bool
  | 0, _, s => (s, false)
  | fuel + 1, u, s =>
    let r := s.unit u
    match r.mode with
    | .settled m =>
      if !s.unitInService u || r.silent || r.transition.isSome then (s, false)
      else
        match s.takenClaim u with
        | none => (s, false)
        | some (slot, c) =>
          if c.mode = m then ((attemptLoop fuel u (s.completeAtOnce u slot c)).1, true)
          else
            match s.lookupRoute u m c.mode with
            | none => ((attemptLoop fuel u (s.failNoRoute u slot c)).1, true)
            | some route => (s.startClaim u m route slot c, true)
    | .tripped => (s, false)
    | .out => (s, false)
    | .unknown => (s, false)

/-- R53 to R55 for unit u: at most one round per claim, and one more. -/
def attemptUnit (u : UnitNo) (s : State) : State × Bool := attemptLoop (s.orders.length + 2) u s

/-- One pool pass from position k on: for each queued pool order, oldest first, selection and, if it chooses a unit,
a start attempt for that unit. A start attempt that takes an order brings the next one to position k (R57). -/
def poolWalk : Nat → Nat → Bool → State → State × Bool
  | 0, _, progress, s => (s, progress)
  | fuel + 1, k, progress, s =>
    match s.orders[k]? with
    | none => (s, progress)
    | some o =>
      match s.selectUnit o with
      | none => poolWalk fuel (k + 1) progress s
      | some u =>
        match s.attemptUnit u with
        | (s', true) => poolWalk fuel k true s'
        | (s', false) => poolWalk fuel (k + 1) progress s'

/-- Passes are made until one starts nothing and ends nothing (R57). -/
def poolLoop : Nat → State → State
  | 0, s => s
  | fuel + 1, s =>
    match poolWalk s.orders.length 0 false s with
    | (s', true) => poolLoop fuel s'
    | (s', false) => s'

/-- The pool pass (R57); each repeat consumes at least one claim. -/
def poolPass (s : State) : State := poolLoop (s.orders.length + 1) s

/-- The start attempt for unit u, which ends with a pool pass (R53, R57). -/
def startAttempt (u : UnitNo) (s : State) : State := (s.attemptUnit u).1.poolPass

/-! ## Offers (R50, R77 to R80) -/

/-- The slot of a claim that waits for unit u and was offered to its transition: the reserve slot, or the unit's
queued unit-targeted order. -/
def removeOffered (u : UnitNo) (c : Claim) (s : State) : State :=
  if c.origin = .reserve then s.updUnit u fun r => { r with reserveClaim := none }
  else { s with orders := s.orders.filter fun o => !o.isFor u }

/-- The merge of claim c into unit u's transition t (R78). -/
def merge (u : UnitNo) (t : Transition) (c : Claim) (s : State) : State :=
  let s := s.sendTransitionStatus u t .superseded .none
  let s := s.removeOffered u c
  let s := s.updTransition u fun t => { t with source := c.origin, reference := c.tag, setpoint := c.setpoint }
  let s := s.sendClaimStatus u c .started .none
  if t.phaseState = .waiting ∧ rank t.source ≠ rank c.origin then s.rerankEntry u (rank c.origin) else s

/-- Claim c is offered to unit u's transition t (R77): it waits, merges, cuts at the next boundary, or cuts at once. -/
def offer (u : UnitNo) (t : Transition) (c : Claim) (s : State) : State :=
  if rank c.origin < rank t.source then s
  else if c.mode = t.target then s.merge u t c
  else
    match t.phaseState with
    | .running => s.updTransition u fun t => { t with cut := some c.name }
    | .waiting => (s.endTransition u .cut .none false).startAttempt u

/-- A waiting claim acts on unit u: it is offered to u's transition, or leads to a start attempt (R47, R113). -/
def actOn (u : UnitNo) (c : Claim) (s : State) : State :=
  match (s.unit u).transition with
  | some t => s.offer u t c
  | none => s.startAttempt u

/-! ## Arrival checks 5 to 8 and acceptance (R45 to R48) -/

/-- A claim that arrives for the queue: a dispatch order past check 4, or a schedule claim. -/
structure Arrival where
  claim : Claim
  target : Target
  expiry : Option Time
  deriving DecidableEq, Repr

/-- MODE is OUT or TRIPPED (R45 check 5). -/
def outOrTripped (s : State) (u : UnitNo) : Bool := (s.unit u).mode = .out || (s.unit u).mode = .tripped

/-- Check 5: the target is wholly unavailable (R45). -/
def whollyUnavailable (s : State) : Target → Bool
  | .unit u => s.outOrTripped u
  | .pool p => (unitNumbers.filter (hasUnit s.plan.pools[p.val].members)).all s.outOrTripped

/-- Check 6: a claim of higher rank already waits for the unit (R46). -/
def outranked (s : State) (o : Origin) : Target → Bool
  | .unit u =>
    (s.unit u).reserveClaim.isSome || s.orders.any fun q => q.isFor u && rank o < rank q.origin
  | .pool _ => false

/-- Queued unit-targeted orders for unit u end SUPERSEDED, reason NONE, and leave; a CUT that names one is cleared
(R46 check 7, R112 step 2). The queue holds at most one such order (R41). -/
def supersedeQueued (u : UnitNo) (s : State) : State :=
  let gone := s.orders.filter fun o => o.isFor u
  gone.foldl (fun s o => (s.clearCut u o.origin o.tag).sendOrderStatus o .superseded .none)
    { s with orders := s.orders.filter fun o => !o.isFor u }

/-- Check 7 (R46). -/
def supersedeFor (s : State) : Target → State
  | .unit u => s.supersedeQueued u
  | .pool _ => s

/-- REFUSED with a reason, for an arrival past check 4 (R42, R61). -/
def refuseArrival (a : Arrival) (r : Reason) (s : State) : State :=
  s.sendStatus a.claim.tag .refused r (targetUnitByte a.target) (modeCode a.claim.mode) a.claim.origin

/-- The record of an accepted arrival (R47). -/
def orderRecord (a : Arrival) (age : Half) : Order :=
  { tag := a.claim.tag, origin := a.claim.origin, target := a.target, mode := a.claim.mode,
    setpoint := a.claim.setpoint, expiry := a.expiry, age }

/-- The arrival is appended with the next AGE (R41, R47). -/
def appendOrder (a : Arrival) (s : State) : State :=
  { s with orders := s.orders ++ [orderRecord a s.ageCount], ageCount := s.ageCount + 1 }

/-- Acceptance: appended, ACCEPTED, then offered, tried at a start attempt, or passed to a pool pass (R47). -/
def acceptArrival (a : Arrival) (s : State) : State :=
  let s := s.appendOrder a
  let s := s.sendStatus a.claim.tag .accepted .none (targetUnitByte a.target) (modeCode a.claim.mode) a.claim.origin
  match a.target with
  | .unit u => s.actOn u a.claim
  | .pool _ => s.poolPass

/-- Arrival checks 5 to 8 and acceptance (R42, R45 to R48). -/
def queueOrder (a : Arrival) (s : State) : State :=
  if s.whollyUnavailable a.target then s.refuseArrival a .unitUnavailable
  else if s.outranked a.claim.origin a.target then s.refuseArrival a .outranked
  else
    let s := s.supersedeFor a.target
    if 16 ≤ s.orders.length then s.refuseArrival a .queueFull else s.acceptArrival a

/-! ## Orders that end in the queue (R58 to R60) -/

/-- A CUT that names a departed order is cleared (R79). -/
def clearCutOf (o : Order) (s : State) : State :=
  match o.target with
  | .unit u => s.clearCut u o.origin o.tag
  | .pool _ => s

/-- A departed unit-targeted order leads to a start attempt for its unit (R56). -/
def attemptFor (o : Order) (s : State) : State :=
  match o.target with
  | .unit u => s.startAttempt u
  | .pool _ => s

/-- The order at position k, if its EXPIRY has been reached, expires (R58). -/
def expireOrder (k : Nat) (s : State) : State :=
  match s.orders[k]? with
  | none => s
  | some o =>
    if s.reached o.expiry then
      let s := { s with orders := s.orders.eraseIdx k }
      let s := (s.clearCutOf o).sendOrderStatus o .expired .none
      s.attemptFor o
    else s

/-- Every queued order that `leaves` picks is withdrawn in queue order, each with its status; no start attempt yet
(R59, R60). -/
def withdrawOrders (leaves : Order → Bool) (r : Reason) (s : State) : State :=
  let gone := s.orders.filter leaves
  gone.foldl (fun s o => (s.clearCutOf o).sendOrderStatus o .withdrawn r)
    { s with orders := s.orders.filter fun o => !leaves o }

/-- Start attempts, in unit order, for the units of the withdrawn unit-targeted orders (R60). -/
def attemptsAfterWithdrawal (gone : List Order) (s : State) : State :=
  (unitNumbers.filter fun u => gone.any fun o => o.isFor u).foldl (fun s u => s.startAttempt u) s

/-- The withdrawal of a change of dispatcher state: statuses first, then start attempts in unit order (R60). -/
def withdrawAndAttempt (leaves : Order → Bool) (r : Reason) (s : State) : State :=
  let gone := s.orders.filter leaves
  (s.withdrawOrders leaves r).attemptsAfterWithdrawal gone

end State
end Sys2Proof.Machine
end

