-- ==== Sys2Proof/Machine/Dispatcher.lean ====
section
/-!
DEFINITION. Dispatcher Control (chapter 7): the end of a drain, master silence, the return to DIRECTED, the schedule program, and the checks of COMMIT.
-/

namespace Sys2Proof.Machine
namespace State

/-! ## Draining (R125, R126) -/

/-- No transition is in flight on any unit and no reserve claim is pending (R125, R126). -/
def nothingLeft (s : State) : Bool :=
  unitNumbers.all fun u => (s.unit u).transition.isNone && (s.unit u).reserveClaim.isNone

/-- PROGRAM becomes STOPPED; the row deadline and the captured content go, PENDING becomes absent (R130, R125, R126). -/
def stopProgram (s : State) : State :=
  { s with program :=
    { s.program with running := false, rowDeadline := none, captured := none, pendingRun := none } }

/-- The end of a drain, if nothing is left: UNPLANNED, the program STOPPED, ALERT DRAIN_DONE (R126; log 14). -/
def drainCheck (s : State) : State :=
  if s.dispatcher = .draining ∧ s.nothingLeft = true then
    let s := { s with dispatcher := .unplanned }
    let s := s.stopProgram
    s.sendAlert .drainDone 0 0
  else s

/-! ## Master silence (R122 to R124) -/

/-- The master silence timer is started with MASTER_SILENCE, provided it is not 0 (R122). -/
def startMasterSilence (s : State) : State :=
  { s with masterDeadline :=
    if s.plan.station.masterSilence = 0 then none else some (s.inTenths s.plan.station.masterSilence) }

/-- A good telegram from the plant master restarts the timer while the dispatcher is DIRECTED (R122). -/
def masterHeard (s : State) : State :=
  if s.dispatcher = .directed then s.startMasterSilence else s

/-! ## Schedule claims and rows (R48, R131, R132) -/

/-- The schedule claim of row r for unit u (R48). -/
def scheduleArrival (r : Byte) (u : UnitNo) (m : Mode) (setpoint : Half) : Arrival :=
  { claim := { origin := .schedule, tag := r.setWidth 16, mode := m, setpoint }, target := .unit u, expiry := none }

/-- The schedule claim that a row's entry makes for unit u, if the unit is in service and the entry is not KEEP (R48). -/
def scheduleClaim (r : Byte) (row : Row) (s : State) (u : UnitNo) : State :=
  if s.unitInService u then
    match row.entries[u.val].mode with
    | some m => s.queueOrder (scheduleArrival r u m row.entries[u.val].setpoint)
    | none => s
  else s

/-- The schedule claims of a row, in unit order (R48, R131). -/
def scheduleClaims (r : Byte) (row : Row) (s : State) : State :=
  unitNumbers.foldl (scheduleClaim r row) s

/-- The stored row r (R127). -/
def storedRow (s : State) (r : Byte) : Row := s.schedule[r.toNat]

/-- Row r is captured and timed (R131 steps 1 to 3). -/
def captureRow (r : Byte) (s : State) : State :=
  { s with program := { s.program with
      currentRow := r
      rowDeadline := some (s.now + 60000 * (s.storedRow r).duration.toNat)
      captured := some (s.storedRow r) } }

/-- Row r begins (R131). -/
def beginRow (r : Byte) (s : State) : State :=
  let row := s.storedRow r
  let s := s.captureRow r
  if s.dispatcher = .autonomous then s.scheduleClaims r row else s

/-- The last row of a run: (START + LENGTH − 1) modulo 256 (R128). -/
def lastRow (run : Run) : Byte := run.start + run.length.setWidth 8 - 1

/-- The row in progress ends: PENDING is applied, or the next row, or the run again, or the program stops (R132). -/
def endRow (s : State) : State :=
  match s.program.pendingRun with
  | some run => ({ s with program := { s.program with run, pendingRun := none } }).beginRow run.start
  | none =>
    if s.program.currentRow ≠ lastRow s.program.run then s.beginRow (s.program.currentRow + 1)
    else if s.program.run.loop then s.beginRow s.program.run.start
    else s.stopProgram

/-- Number of orders `leaves` picks. -/
def countOrders (s : State) (leaves : Order → Bool) : Nat := (s.orders.filter leaves).length

/-- The expiry of the master silence timer in DIRECTED, in the order of R123. -/
def fallSilent (s : State) : State :=
  let s := { s with dispatcher := .autonomous, masterSilenceSeen := true, masterDeadline := none }
  let n := s.countOrders fun o => o.origin = .dispatch
  let s := s.withdrawAndAttempt (fun o => o.origin = .dispatch) .masterSilent
  let s := s.sendAlert .masterSilent (natByte n) 1
  if s.program.running then
    match s.program.captured with
    | some row => s.scheduleClaims s.program.currentRow row
    | none => s
  else s

/-- The return to DIRECTED, in the order of R124. -/
def returnDirected (s : State) : State :=
  let s := { s with dispatcher := .directed }
  let s := s.startMasterSilence
  let n := s.countOrders fun o => o.origin = .schedule
  let s := s.withdrawAndAttempt (fun o => o.origin = .schedule) .returnDirected
  s.sendAlert .masterSilent (natByte n) 0

/-- UNCOMMIT in DIRECTED or AUTONOMOUS, steps 1 to 3 of R125. -/
def withdrawPlan (s : State) : State :=
  let s := { s with dispatcher := .draining, masterDeadline := none }
  let s := s.withdrawAndAttempt (fun _ => true) .uncommit
  if s.nothingLeft then ({ s with dispatcher := .unplanned }).stopProgram else s

/-! ## The checks of COMMIT (R120, R121, R36 to R39, R49, R109) -/

/-- The first index that fails a check. -/
def firstFailing {n : Nat} (ok : Fin n → Bool) : Option Nat :=
  ((List.finRange n).find? fun i => !ok i).map Fin.val

/-- Plant table (R121): entry 0, then the unit entries below UNIT_COUNT; the waterway entries pass. -/
def plantEntryOk (s : State) (i : Fin 11) : Bool :=
  if i.val = 0 then s.plan.station.abortCommand ≠ 0 && s.plan.station.setpointCommand ≠ 0
  else if h : i.val - 1 < 8 then
    let u : UnitNo := ⟨i.val - 1, h⟩
    !s.unitInService u || (s.waterwayOf u).val < s.plan.station.waterwayCount.toNat
  else true

/-- A route (R36). -/
def routeOk (s : State) (i : Fin 32) : Bool :=
  let r := s.plan.routes[i.val]
  !r.enabled ||
    (r.fromMode ≠ r.toMode && r.units ≠ 0 && (unitNumbers.all fun u => !hasUnit r.units u || s.unitInService u) &&
      r.firstPhase.val + r.phaseCount ≤ 128)

/-- Whether an enabled route contains a phase index (R27). -/
def Route.contains (r : Route) (i : Nat) : Bool :=
  r.enabled && r.firstPhase.val ≤ i && i < r.firstPhase.val + r.phaseCount

/-- KEEP of the phase before number k of route r: what is kept in (R33). -/
def keptIn (s : State) (r : Fin 32) (k : Nat) : Resources :=
  if k ≤ 1 then .none else (s.phaseAt r (k - 1)).keep

/-- R38 and R39 for the phase at index i as number k of route r. -/
def phaseOkIn (s : State) (i : Fin 128) (r : Fin 32) : Bool :=
  let route := s.plan.routes[r.val]
  let p := s.plan.phases[i.val]
  let k := i.val - route.firstPhase.val + 1
  let last := k = route.phaseCount
  let kept := s.keptIn r k
  p.command ≠ 0 && p.statusMask ≠ 0 && p.timeLimit ≠ 0 && (!last || p.landing = route.toMode) &&
    (!last || p.keep = .none) &&
    (s.plan.station.converterCount ≠ 0 || !p.claim.hasConverter) &&
    (!p.keep.hasConverter || p.claim.hasConverter || kept.hasConverter) &&
    (!p.keep.hasWaterway || p.claim.hasWaterway || kept.hasWaterway) &&
    !(kept.hasWaterway && p.claim.hasConverter && !kept.hasConverter)

/-- A phase index in every enabled route that contains it (R37). -/
def phaseOk (s : State) (i : Fin 128) : Bool :=
  (List.finRange 32).all fun r => !Route.contains s.plan.routes[r.val] i.val || s.phaseOkIn i r

/-- A recognition entry (R121). -/
def recognitionOk (s : State) (i : Fin 12) : Bool :=
  let e := s.plan.recognition[i.val]
  !e.enabled || (e.mask ≠ 0 && e.mode.val ≤ 5)

/-- A pool (R49). -/
def poolOk (s : State) (i : Fin 4) : Bool :=
  unitNumbers.all fun u => !hasUnit s.plan.pools[i.val].members u || s.unitInService u

/-- The settled modes in code order. -/
def allModes : List Mode := [.st, .gen, .pmp, .scg, .scp]

/-- Mode m is in a set of modes (R165). -/
def hasMode (ms : BitVec 5) (m : Mode) : Bool := ms.getLsbD (modeCode m).toNat

/-- A reserve entry: index L × 8 + u (R108, R109). -/
def reserveOk (s : State) (i : Fin 16) : Bool :=
  let e := s.plan.reserve[i.val]
  let u : UnitNo := ⟨i.val % 8, Nat.mod_lt _ (by decide)⟩
  !s.unitInService u ||
    match e.target with
    | none => true
    | some n => allModes.all fun m => !hasMode e.apply m || m = n || (s.lookupRoute u m n).isSome

/-- The walk of COMMIT: the failing table and index, if any check fails (R120). -/
def commitWalk (s : State) : Option (Nat × Nat) :=
  match firstFailing s.plantEntryOk with
  | some i => some (1, i)
  | none =>
  match firstFailing s.routeOk with
  | some i => some (2, i)
  | none =>
  match firstFailing s.phaseOk with
  | some i => some (3, i)
  | none =>
  match firstFailing s.recognitionOk with
  | some i => some (4, i)
  | none =>
  match firstFailing s.poolOk with
  | some i => some (5, i)
  | none =>
  match firstFailing s.reserveOk with
  | some i => some (6, i)
  | none => none

end State
end Sys2Proof.Machine
end

