-- ==== Sys2Proof/Machine/UnitMonitor.lean ====
section
/-!
DEFINITION. The Unit Monitor (chapter 1): recognition (R4, R5), trip events (R12 to R14), OUT (R16, R17, R19), reports (R6 to R9, R15, R71), silence (R10).
-/

namespace Sys2Proof.Machine

/-! ## Recognition (R4, R5) -/

/-- The result of recognition (R5). -/
inductive Recognised where
  | trip (index : Fin 12)
  | mode (m : Mode)
  | none
  deriving DecidableEq, Repr

/-- An entry is enabled, names unit u and matches the status word; a MODE above 5 is passed over elsewhere (R4). -/
def Recognition.hits (e : Recognition) (u : UnitNo) (w : Word) : Bool :=
  e.enabled && hasUnit e.units u && wordMatches w e.value e.mask

namespace State

/-- The first trip entry that applies to u and matches (R5). -/
def tripEntry (s : State) (u : UnitNo) (w : Word) : Option (Fin 12) :=
  (List.finRange 12).find? fun i => s.plan.recognition[i.val].mode = 5 && s.plan.recognition[i.val].hits u w

/-- The mode of the first mode entry that applies to u and matches (R5). -/
def modeEntry (s : State) (u : UnitNo) (w : Word) : Option Mode :=
  (List.finRange 12).findSome? fun i =>
    if s.plan.recognition[i.val].hits u w then modeOf (natByte s.plan.recognition[i.val].mode.val) else none

/-- Recognition of a status word for unit u; while a transition is in flight only the trip entries are tried (R5). -/
def recognise (s : State) (u : UnitNo) (w : Word) : Recognised :=
  match s.tripEntry u w with
  | some i => .trip i
  | none =>
    if (s.unit u).transition.isSome then .none
    else
      match s.modeEntry u w with
      | some m => .mode m
      | none => .none

/-! ## Claims that fail with their unit (R13, R17) -/

/-- Queued unit-targeted orders for u that `keep` does not spare end FAILED (R13 step 3, R17 step 3). -/
def failQueued (u : UnitNo) (keep : Option CutName) (r : Reason) (s : State) : State :=
  let leaves := fun o : Order => o.isFor u && !(keep = some o.claim.name)
  (s.orders.filter leaves).foldl (fun s o => s.sendOrderStatus o .failed r)
    { s with orders := s.orders.filter fun o => !leaves o }

/-- A pending reserve claim of u that `keep` does not spare is removed and ends FAILED (R13 step 4, R17 step 4). -/
def failReserve (u : UnitNo) (keep : Option CutName) (r : Reason) (s : State) : State :=
  match (s.unit u).reserveClaim with
  | none => s
  | some c =>
    if keep = some c.claim.name then s
    else (s.updUnit u fun x => { x with reserveClaim := none }).sendClaimStatus u c.claim .failed r

/-- What CUT of unit u's transition names (R65). -/
def cutOf (s : State) (u : UnitNo) : Option CutName := (s.unit u).transition.bind fun t => t.cut

/-! ## Trip events (R12 to R14) -/

/-- ALERT TRIP and the TRIPS event (R13 step 5, R14). -/
def reportTrip (u : UnitNo) (detail : Half) (s : State) : State :=
  (s.sendAlert .trip (unitByte u) detail).dutyEvent .trips u

/-- Entry into TRIPPED, in the order of R13. A claim that CUT named stays. -/
def enterTripped (u : UnitNo) (detail : Half) (s : State) : State :=
  let keep := s.cutOf u
  ((((s.changeMode u .tripped).endTransition u .failed .unitTripped true).failQueued u keep .unitTripped).failReserve
    u keep .unitTripped).reportTrip u detail

/-- A trip event for unit u (R12). -/
def tripEvent (u : UnitNo) (detail : Half) (s : State) : State :=
  let s := s.updUnit u fun r => { r with tripSeen := true }
  match (s.unit u).mode with
  | .tripped => s
  | .out => s.reportTrip u detail
  | .settled _ => s.enterTripped u detail
  | .unknown => s.enterTripped u detail

/-- A trip event with the start attempt that the end of a transition asks for (R86 step 6). -/
def tripAndAttempt (u : UnitNo) (detail : Half) (s : State) : State :=
  let s' := s.tripEvent u detail
  if (s.unit u).transition.isSome && (s'.unit u).transition.isNone then s'.startAttempt u else s'

/-! ## Entry into OUT and leaving OUT (R16, R17, R19) -/

/-- Entry into OUT, in the order of R17, with the start attempt of a transition's end (R86 step 6). -/
def enterOut (u : UnitNo) (s : State) : State :=
  let s' := ((s.changeMode u .out).endTransition u .failed .unitOut false).failQueued u none .unitOut
  let s' := s'.failReserve u none .unitOut
  if (s.unit u).transition.isSome then s'.startAttempt u else s'

/-- Leaving OUT (R19). -/
def leaveOut (u : UnitNo) (s : State) : State :=
  s.changeMode u (if (s.unit u).tripInput then .tripped else .unknown)

/-- A source of the out condition of unit u is rewritten by f; the condition becoming true is entry into OUT, and its
becoming false is leaving OUT (R16). -/
def writeOutSource (u : UnitNo) (f : UnitRecord → UnitRecord) (s : State) : State :=
  let s' := s.updUnit u f
  match (s.unit u).outCondition, (s'.unit u).outCondition with
  | false, true => s'.enterOut u
  | true, false => s'.leaveOut u
  | false, false => s'
  | true, true => s'

/-! ## Silence (R10) -/

/-- The silence timer of unit u is restarted with its unit silence time (R6 step 1, R10). -/
def restartSilence (u : UnitNo) (s : State) : State :=
  s.updUnit u fun r => { r with silenceDeadline := some (s.inTenths s.plan.unitEntries[u.val].unitSilence) }

/-- The silence timer of unit u expires (R10). -/
def unitFallsSilent (u : UnitNo) (s : State) : State :=
  (s.updUnit u fun r => { r with silent := true, silenceDeadline := none }).sendAlert .unitSilent (unitByte u) 1

/-- The end of silence with its alert, if SILENT was set (R6 step 2). -/
def endSilence (u : UnitNo) (s : State) : State :=
  if (s.unit u).silent then
    (s.updUnit u fun r => { r with silent := false }).sendAlert .unitSilent (unitByte u) 0
  else s

/-! ## Unit reports (R6 to R9) -/

/-- The steps common to every report (R6). -/
def commonReport (u : UnitNo) (rep : Report) (s : State) : State :=
  ((s.restartSilence u).endSilence u).updUnit u fun r => { r with lastReport := some rep }

/-- DETAIL of a trip that came from a report (R13 step 5). -/
def tripDetail (i : Fin 12) : Half := natHalf (0x0100 + i.val)

/-- A report for a unit with no transition, in a settled mode or UNKNOWN; answers whether a start attempt follows (R6). -/
def reportAtRest (u : UnitNo) (w : Word) (s : State) : State × Bool :=
  match s.recognise u w with
  | .trip i => (s.tripEvent u (tripDetail i), false)
  | .none => (s, false)
  | .mode n =>
    let old := (s.unit u).mode
    if old = .unknown then (s.changeMode u (.settled n), true)
    else if old = .settled n then (s, false)
    else
      ((s.changeMode u (.settled n)).sendAlert .modeDrift (unitByte u)
        (natHalf ((unitModeCode old).toNat * 256 + (modeCode n).toNat)), true)

/-- A report for a unit with a transition in flight; answers whether the transition ended (R7, R71). -/
def reportMoving (u : UnitNo) (t : Transition) (w : Word) (s : State) : State × Bool :=
  match s.recognise u w with
  | .trip i => (s.tripEvent u (tripDetail i), true)
  | .mode _ => (s, false)
  | .none =>
    let p := s.currentPhase t
    if t.phaseState = .running ∧ wordMatches w p.statusValue p.statusMask = true then
      let s' := s.completePhase u
      (s', (s'.unit u).transition.isNone)
    else (s, false)

/-- A report for a TRIPPED unit; answers whether the unit left TRIPPED (R8, R14, R15). -/
def reportTripped (u : UnitNo) (w : Word) (s : State) : State × Bool :=
  match s.recognise u w with
  | .trip i => (s.tripEvent u (tripDetail i), false)
  | .none => (s, false)
  | .mode n => if (s.unit u).tripInput then (s, false) else (s.changeMode u (.settled n), true)

/-- What follows the common steps, by the unit's condition; answers whether a start attempt follows (R6 to R9). -/
def reportByCondition (u : UnitNo) (w : Word) (s : State) : State × Bool :=
  match (s.unit u).mode with
  | .out => (s, false)
  | .tripped => s.reportTripped u w
  | .unknown => s.reportAtRest u w
  | .settled _ =>
    match (s.unit u).transition with
    | some t => s.reportMoving u t w
    | none => s.reportAtRest u w

/-- A report of 8 bytes from unit u in service: its effects, one start attempt if any of them asks for one (R21), and
the end of a drain (R126). -/
def readUnitReport (u : UnitNo) (rep : Report) (s : State) : State :=
  let silenceEnded := (s.unit u).silent
  let (s', attempt) := (s.commonReport u rep).reportByCondition u rep.statusWord
  (if silenceEnded || attempt then s'.startAttempt u else s').drainCheck

/-- The report that eight payload bytes spell (section 9.7). -/
def parseReport : List Byte → Option Report
  | [w3, w2, w1, w0, p1, p0, v1, v0] =>
    some { statusWord := word w3 w2 w1 w0, power := half p1 p0, speed := half v1 v0 }
  | _ => none

/-- A UNIT REPORT is read when it has 8 bytes and comes from a unit in service (R136). -/
def takeUnitReport (t : Telegram) (s : State) : State :=
  match s.unitAt t.src, parseReport t.payload with
  | some u, some rep => s.readUnitReport u rep
  | some _, none => s
  | none, _ => s

end State
end Sys2Proof.Machine
end

