-- ==== Sys2Proof/Machine/Resets.lean ====
section
/-!
DEFINITION. Power-on reset (R22, R104, R116, R133, R158, R171, R179) and the soft reset (R170 and the rules it names).
-/

namespace Sys2Proof.Machine

/-! ## Records after a soft reset -/

/-- A port on soft reset: a telegram in transmission is sent to its end uncounted; queues and counters are emptied (R158). -/
def PortState.softReset (q : PortState) : PortState :=
  { q with
    originated := []
    forwarded := []
    transmitting := q.transmitting.map fun x => { x with counted := false }
    counters := Counters.zero }

/-- The Duty Monitor's record on soft reset: values and control stay (R179). -/
def Duty.softReset (d : Duty) : Duty :=
  { d with freeze := false, latches := 0, summary := false, accumulator := Vector.replicate 4 0 }

namespace State

/-- A unit in service on soft reset (R23). -/
def softUnit (s : State) (lines : Lines) (u : UnitNo) : UnitRecord :=
  let r := UnitRecord.powerOn (hasUnit lines.trip u) (some (s.inTenths s.plan.unitEntries[u.val].unitSilence))
    (debounceFrom s.now (hasUnit lines.out u) 100)
  let out := (s.unit u).configuredOut
  { r with configuredOut := out, mode := if out then .out else .unknown }

/-- A unit's record on soft reset; a unit not in service keeps the values of R22 (R23, R2). -/
def softUnitRecord (s : State) (lines : Lines) (u : UnitNo) : UnitRecord :=
  if s.unitInService u then s.softUnit lines u else UnitRecord.powerOn (hasUnit lines.trip u) none none

/-- A waterway on soft reset (R105). -/
def softWaterway (s : State) (w : WaterwayNo) : Waterway :=
  if s.waterwayInService w then
    { Waterway.powerOn (some (s.inTenths s.plan.waterwayEntries[w.val].waterwaySilence)) with
      window := if s.settleTime w = 0 then .free else .settling (s.inSeconds (s.settleTime w)) }
  else Waterway.powerOn none

/-- The debounce of a reserve line found asserted, with its time of the plant table (R107, R116). -/
def reserveDebounce (s : State) (asserted : Bool) (time : Byte) : Option Time :=
  debounceFrom s.now asserted (10 * time.toNat)

/-- A TRIP line found asserted on a unit in service is a trip event, in unit order (R22, R23, R2; log 24). -/
def sampleTrips (us : List UnitNo) (lines : Lines) (s : State) : State :=
  (us.filter fun u => s.unitInService u && hasUnit lines.trip u).foldl (fun s u => s.tripEvent u 0) s

/-- The soft-reset values of every block (R170), before the lines act. -/
def softValues (lines : Lines) (s : State) : State :=
  { s with
    lines
    plantPort := s.plantPort.softReset
    unitPort := s.unitPort.softReset
    units := #v[s.softUnitRecord lines 0, s.softUnitRecord lines 1, s.softUnitRecord lines 2, s.softUnitRecord lines 3,
      s.softUnitRecord lines 4, s.softUnitRecord lines 5, s.softUnitRecord lines 6, s.softUnitRecord lines 7],
    orders := [],
    ageCount := 0,
    converters := Vector.replicate 2 none,
    converterWait := [],
    waterways := #v[s.softWaterway 0, s.softWaterway 1],
    reserveA := ReserveState.powerOn (s.reserveDebounce lines.reserveA s.plan.station.reserveDebounceA)
    reserveB := ReserveState.powerOn (s.reserveDebounce lines.reserveB s.plan.station.reserveDebounceB)
    dispatcher := .unplanned
    masterDeadline := none
    masterSilenceSeen := false
    program := Program.reset
    resetPending := false
    duty := #v[(s.dutyOf 0).softReset, (s.dutyOf 1).softReset, (s.dutyOf 2).softReset, (s.dutyOf 3).softReset,
      (s.dutyOf 4).softReset, (s.dutyOf 5).softReset, (s.dutyOf 6).softReset, (s.dutyOf 7).softReset],
    globalFreeze := false }

/-- The soft reset, one event, with the lines sampled anew (R170). -/
def softResetEvent (lines : Lines) (s : State) : State :=
  (s.softValues lines).sampleTrips unitNumbers lines

/-- Power-on reset with the lines and LINK_OK inputs as sampled. The clock, the queue and the model's own counters go
on (log 20). -/
def powerOnEvent (lines : Lines) (plantLinkOk unitLinkOk : Bool) (s : State) : State :=
  { State.powerOn s.now lines plantLinkOk unitLinkOk with
    pending := s.pending
    freeCount := s.freeCount
    requestSerial := s.requestSerial }.sampleTrips unitNumbers lines

end State
end Sys2Proof.Machine
end

