-- ==== Sys2Proof/Machine/Flags.lean ====
section
/-!
DEFINITION. Flag bytes and times remaining, as the views and the STATUS answer carry them (R165, R167, R62, R87, R103, R128).
-/

namespace Sys2Proof.Machine

/-- A list of bits as a byte, the first being bit 0. -/
def bitsByte (bs : List Bool) : Byte :=
  natByte (bs.foldr (fun b n => 2 * n + (if b then 1 else 0)) 0)

/-- Flags of a unit record, bits 0 to 7 (R165). -/
def UnitRecord.flags (r : UnitRecord) : Byte :=
  bitsByte [r.configuredOut, r.outInput, r.tripInput, r.silent, r.tripSeen, r.lastReport.isSome, r.transition.isSome,
    r.reserveClaim.isSome]

/-- Time from now to a deadline in units of `unit` ms, rounded up; 0 once it is past. -/
def remaining (now : Time) (unit : Nat) (deadline : Time) : Half := natHalf ((deadline - now + (unit - 1)) / unit)

/-- As `remaining`, rounded down. -/
def remainingDown (now : Time) (unit : Nat) (deadline : Time) : Half := natHalf ((deadline - now) / unit)

/-- Tenths of a second to an optional deadline, rounded up; 0xFFFF when the timer is stopped (R165). -/
def silenceRemaining (now : Time) : Option Time → Half
  | some d => remaining now 100 d
  | none => 0xFFFF

/-- The same for a waterway, whose rounding no rule states (R103; log 9). -/
def waterwaySilenceRemaining (now : Time) : Option Time → Half
  | some d => if Config.waterwaySilenceRoundsUp then remaining now 100 d else remainingDown now 100 d
  | none => 0xFFFF

/-- Seconds to an optional deadline, rounded up; 0 when absent (R62, R128). -/
def secondsRemaining (now : Time) : Option Time → Half
  | some d => remaining now 1000 d
  | none => 0

namespace State

/-- Latches of STATUS byte 34 (R167). -/
def latchByte (s : State) : Byte :=
  bitsByte [s.reserveA.seen, s.reserveB.seen, (s.waterway 0).alarmSeen, (s.waterway 1).alarmSeen, s.masterSilenceSeen]

/-- Debounced RESERVE levels, STATUS byte 33 (R167). -/
def levelByte (s : State) : Byte := bitsByte [s.reserveA.level, s.reserveB.level]

/-- Unit summary latches, STATUS byte 35 (R167). -/
def summaryByte (s : State) : Byte := bitsByte (unitNumbers.map fun u => (s.dutyOf u).summary)

/-- Link states, STATUS byte 36 (R167). -/
def linkByte (s : State) : Byte := bitsByte [s.plantPort.link, s.unitPort.link]

end State
end Sys2Proof.Machine
end

