-- ==== Sys2Proof/Machine/Operands.lean ====
section
/-!
DEFINITION. The tables of R162 and the layouts of their entries in DATA (R165): the reading of a written entry with the ranges its rule accepts, and the bytes of every entry and view as read.
-/

namespace Sys2Proof.Machine

/-! ## The tables (R162) -/

inductive Table where
  | plant
  | route
  | phase
  | recognition
  | pool
  | reserve
  | matching
  | guard
  | schedule
  | counterControl
  | counterValues
  | unitRecords
  | orderQueue
  | transitions
  | resources
  | portCounters
  deriving DecidableEq, Repr

/-- The table with a number (R162). -/
def tableOf (b : Byte) : Option Table :=
  match b.toNat with
  | 1 => some .plant
  | 2 => some .route
  | 3 => some .phase
  | 4 => some .recognition
  | 5 => some .pool
  | 6 => some .reserve
  | 8 => some .matching
  | 9 => some .guard
  | 10 => some .schedule
  | 11 => some .counterControl
  | 12 => some .counterValues
  | 16 => some .unitRecords
  | 17 => some .orderQueue
  | 18 => some .transitions
  | 19 => some .resources
  | 20 => some .portCounters
  | _ => none

/-- Last index that can be read; index 8 of table 11 is read by a request that starts at it (R162, R163). -/
def Table.lastRead (t : Table) (start : Nat) : Nat :=
  match t with
  | .plant => 10
  | .route => 31
  | .phase => 127
  | .recognition => 11
  | .pool => 3
  | .reserve => 15
  | .matching => 23
  | .guard => 15
  | .schedule => 256
  | .counterControl => if start = 8 then 8 else 7
  | .counterValues => 31
  | .unitRecords => 7
  | .orderQueue => 15
  | .transitions => 7
  | .resources => 3
  | .portCounters => 1

/-- Number of entries that can be written; 0 for a view, which is read-only (R162). -/
def Table.writeCount : Table → Nat
  | .plant => 11
  | .route => 32
  | .phase => 128
  | .recognition => 12
  | .pool => 4
  | .reserve => 16
  | .matching => 24
  | .guard => 16
  | .schedule => 256
  | .counterControl => 8
  | .counterValues => 32
  | .unitRecords => 0
  | .orderQueue => 0
  | .transitions => 0
  | .resources => 0
  | .portCounters => 0

/-- Tables 1 to 6, the plan tables (R119). -/
def Table.isPlan : Table → Bool
  | .plant => true
  | .route => true
  | .phase => true
  | .recognition => true
  | .pool => true
  | .reserve => true
  | .matching => false
  | .guard => false
  | .schedule => false
  | .counterControl => false
  | .counterValues => false
  | .unitRecords => false
  | .orderQueue => false
  | .transitions => false
  | .resources => false
  | .portCounters => false

/-- Size of an entry as read (R165). -/
def Table.entrySize (t : Table) (index : Nat) : Nat :=
  match t with
  | .plant => 16
  | .route => 6
  | .phase => 16
  | .recognition => 11
  | .pool => 2
  | .reserve => 4
  | .matching => 13
  | .guard => 7
  | .schedule => 25
  | .counterControl => if index = 8 then 1 else 10
  | .counterValues => 4
  | .unitRecords => 32
  | .orderQueue => 12
  | .transitions => 20
  | .resources => 44
  | .portCounters => 36

/-! ## Codes of fields (R165) -/

def resourcesCode : Resources → Byte
  | .none => 0
  | .converter => 1
  | .waterway => 2
  | .both => 3

def resourcesOf (b : Byte) : Option Resources :=
  if b = 0 then some .none
  else if b = 1 then some .converter
  else if b = 2 then some .waterway
  else if b = 3 then some .both
  else none

def directionCode : Direction → Byte
  | .down => 0
  | .up => 1
  | .both => 2

def directionOf (b : Byte) : Option Direction :=
  if b = 0 then some .down
  else if b = 1 then some .up
  else if b = 2 then some .both
  else none

def actionCode : GuardAction → Byte
  | .forward => 0
  | .drop => 1
  | .hold => 2

def actionOf (b : Byte) : Option GuardAction :=
  if b = 0 then some .forward
  else if b = 1 then some .drop
  else if b = 2 then some .hold
  else none

/-- The event with a code 0..15 (R173). -/
def eventOfCode (b : Byte) : Option DutyEvent :=
  [DutyEvent.none, .entriesGen, .entriesPmp, .entriesCondense, .transitionsDone, .transitionsFailed, .cuts,
    .phaseOverruns, .trips, .converterGrants, .waterwayGrants, .secondsGen, .secondsPmp, .secondsCondense,
    .secondsMoving, .holdDrops][b.toNat]?

def dispatcherCode : DispatcherState → Byte
  | .unplanned => 0
  | .directed => 1
  | .autonomous => 2
  | .draining => 3

/-- A reserve entry's TARGET; NONE is 0xFF (R165). -/
def reserveTargetByte : Option Mode → Byte
  | some m => modeCode m
  | none => 0xFF

/-- Reads a reserve entry's TARGET; none where it is outside the range (R108). -/
def reserveTargetOf (b : Byte) : Option (Option Mode) :=
  if b = 0xFF then some none else (modeOf b).map some

/-- A schedule row's ENTRY_MODE; KEEP is 15 (R127). -/
def entryModeByte : Option Mode → Byte
  | some m => modeCode m
  | none => 15

def entryModeOf (b : Byte) : Option (Option Mode) :=
  if b = 15 then some none else (modeOf b).map some

/-- Match KIND; ANY is 0x00, and kinds below 0x10 are outside the range (R139, R165). -/
def matchKindOf (b : Byte) : Option (Option Byte) :=
  if b = 0 then some none else if 0x10 ≤ b.toNat then some (some b) else none

/-- Match LEN; ANY is 0xFF (R139, R165). -/
def matchLenOf (b : Byte) : Option (Option Byte) :=
  if b = 0xFF then some none else if b.toNat ≤ 64 then some (some b) else none

/-- A value is given when it lies in a range. -/
def within {α : Type} (ok : Bool) (a : α) : Option α := if ok then some a else none

/-- A setpoint, 0 to 4000. -/
def setpointOk (h : Half) : Bool := h.toNat ≤ 4000

/-- A number below a bound, read from a byte. -/
def finOf (n : Nat) (b : Byte) : Option (Fin n) := if h : b.toNat < n then some ⟨b.toNat, h⟩ else none

/-! ## Written entries -/

/-- The station entry (R118). -/
def parseStation : List Byte → Option Station
  | [uc, wc, cc, ab, sc, m1, m0, s1, s0, d1, d0, r1, r0, da, db, _] =>
    within (decide (1 ≤ uc.toNat) && decide (uc.toNat ≤ 8) && decide (1 ≤ wc.toNat) && decide (wc.toNat ≤ 2) &&
        decide (cc.toNat ≤ 2) && decide ((half m1 m0).toNat ≤ 6000) && decide (1 ≤ (half s1 s0).toNat) &&
        decide ((half s1 s0).toNat ≤ 3600) && decide (1 ≤ (half d1 d0).toNat) && decide ((half d1 d0).toNat ≤ 3600) &&
        decide (1 ≤ (half r1 r0).toNat) && decide ((half r1 r0).toNat ≤ 3600) && decide (da.toNat ≤ 100) &&
        decide (db.toNat ≤ 100))
      { unitCount := uc, waterwayCount := wc, converterCount := cc, abortCommand := ab, setpointCommand := sc,
        masterSilence := half m1 m0, waitLimitSchedule := half s1 s0, waitLimitDispatch := half d1 d0,
        waitLimitReserve := half r1 r0, reserveDebounceA := da, reserveDebounceB := db }
  | _ => none

/-- A silence time, 5 to 600 (R118). -/
def silenceOk (h : Half) : Bool := 5 ≤ h.toNat && h.toNat ≤ 600

/-- A unit entry (R118). -/
def parseUnitEntry : List Byte → Option UnitEntry
  | [w, s1, s0, _, _, _, _, _, _, _, _, _, _, _, _, _] => do
    let w ← finOf 2 w
    within (silenceOk (half s1 s0)) { waterway := w, unitSilence := half s1 s0 }
  | _ => none

/-- A waterway entry (R118). -/
def parseWaterwayEntry : List Byte → Option WaterwayEntry
  | [t1, t0, s1, s0, _, _, _, _, _, _, _, _, _, _, _, _] =>
    within (decide ((half t1 t0).toNat ≤ 600) && silenceOk (half s1 s0))
      { settleTime := half t1 t0, waterwaySilence := half s1 s0 }
  | _ => none

/-- A route (R25). -/
def parseRoute : List Byte → Option Route
  | [e, f, t, us, fp, pc] => do
    let e ← yesNo e
    let f ← modeOf f
    let t ← modeOf t
    let fp ← finOf 128 fp
    within (decide (1 ≤ pc.toNat) && decide (pc.toNat ≤ 8))
      { enabled := e, fromMode := f, toMode := t, units := us, firstPhase := fp, phaseCount := pc.toNat }
  | _ => none

/-- A phase (R25). -/
def parsePhase : List Byte → Option Phase
  | [c, l, v3, v2, v1, v0, m3, m2, m1, m0, t1, t0, r, cl, k, sp] => do
    let l ← modeOf l
    let cl ← resourcesOf cl
    let k ← resourcesOf k
    let sp ← yesNo sp
    within (decide (r.toNat ≤ 3))
      { command := c, landing := l, statusValue := word v3 v2 v1 v0, statusMask := word m3 m2 m1 m0,
        timeLimit := half t1 t0, retries := r.toNat, claim := cl, keep := k, sendSetpoint := sp }
  | _ => none

/-- A recognition entry (R4, R164). -/
def parseRecognition : List Byte → Option Recognition
  | [e, m, us, v3, v2, v1, v0, m3, m2, m1, m0] => do
    let e ← yesNo e
    let m ← finOf 16 m
    some { enabled := e, mode := m, units := us, value := word v3 v2 v1 v0, mask := word m3 m2 m1 m0 }
  | _ => none

/-- A pool (R49). -/
def parsePool : List Byte → Option Pool
  | [ms, c] => do
    let c ← finOf 4 c
    some { members := ms, selectCounter := c }
  | _ => none

/-- A reserve entry (R108). -/
def parseReserve : List Byte → Option ReserveEntry
  | [ap, t, s1, s0] => do
    let t ← reserveTargetOf t
    within (decide (ap.toNat < 32) && setpointOk (half s1 s0))
      { apply := ap.setWidth 5, target := t, setpoint := half s1 s0 }
  | _ => none

/-- A match entry (R139). -/
def parseMatch : List Byte → Option MatchEntry
  | [e, d, k, i1, i0, j1, j0, l, v0, v1, m0, m1, c] => do
    let e ← yesNo e
    let d ← directionOf d
    let k ← matchKindOf k
    let l ← matchLenOf l
    let c ← finOf 16 c
    within (c ≠ 0)
      { enabled := e, direction := d, kind := k, identValue := half i1 i0, identMask := half j1 j0, len := l,
        dataValue0 := v0, dataValue1 := v1, dataMask0 := m0, dataMask1 := m1, cls := c }
  | _ => none

/-- A class of the guard table (R141). -/
def parseGuard : List Byte → Option GuardRow
  | [a, b, c, d, e, f, g] => do
    let a ← actionOf a
    let b ← actionOf b
    let c ← actionOf c
    let d ← actionOf d
    let e ← actionOf e
    let f ← actionOf f
    let g ← actionOf g
    some ⟨a, b, c, d, e, f, g⟩
  | _ => none

/-- One unit's entry of a schedule row (R127). -/
def parseRowEntry (m s1 s0 : Byte) : Option RowEntry := do
  let m ← entryModeOf m
  within (setpointOk (half s1 s0)) { mode := m, setpoint := half s1 s0 }

/-- A schedule row (R127). -/
def parseRow : List Byte → Option Row
  | [d, a0, a1, a2, b0, b1, b2, c0, c1, c2, d0, d1, d2, e0, e1, e2, f0, f1, f2, g0, g1, g2, h0, h1, h2] => do
    let a ← parseRowEntry a0 a1 a2
    let b ← parseRowEntry b0 b1 b2
    let c ← parseRowEntry c0 c1 c2
    let d' ← parseRowEntry d0 d1 d2
    let e ← parseRowEntry e0 e1 e2
    let f ← parseRowEntry f0 f1 f2
    let g ← parseRowEntry g0 g1 g2
    let h ← parseRowEntry h0 h1 h2
    within (decide (1 ≤ d.toNat) && decide (d.toNat ≤ 240)) { duration := d, entries := #v[a, b, c, d', e, f, g, h] }
  | _ => none

/-- The written fields of a unit's counter control (R177). -/
structure Control where
  event : Vector DutyEvent 4
  enable : BitVec 4
  notify : BitVec 4
  freezeOnOverflow : Bool
  deriving DecidableEq, Repr

/-- Counter control as written (R177). -/
def parseControl : List Byte → Option Control
  | [e0, e1, e2, e3, en, nt, fo] => do
    let e0 ← eventOfCode e0
    let e1 ← eventOfCode e1
    let e2 ← eventOfCode e2
    let e3 ← eventOfCode e3
    let fo ← yesNo fo
    within (decide (en.toNat < 16) && decide (nt.toNat < 16))
      { event := #v[e0, e1, e2, e3], enable := en.setWidth 4, notify := nt.setWidth 4, freezeOnOverflow := fo }
  | _ => none

/-- A counter value (R177). -/
def parseValue : List Byte → Option Word
  | [b3, b2, b1, b0] => some (word b3 b2 b1 b0)
  | _ => none

/-- START, LENGTH and LOOP of PROGRAM_START and PROGRAM_RENEW (R129, R161). START fits its byte. -/
def parseRun : List Byte → Option Run
  | [st, l1, l0, lp] => do
    let lp ← yesNo lp
    within (decide (1 ≤ (half l1 l0).toNat) && decide ((half l1 l0).toNat ≤ 256))
      { start := st, length := half l1 l0, loop := lp }
  | _ => none

/-! ## Entries as read -/

def zeros (n : Nat) : List Byte := List.replicate n 0

def stationBytes (e : Station) : List Byte :=
  [e.unitCount, e.waterwayCount, e.converterCount, e.abortCommand, e.setpointCommand] ++ halfBytes e.masterSilence ++
    halfBytes e.waitLimitSchedule ++ halfBytes e.waitLimitDispatch ++ halfBytes e.waitLimitReserve ++
    [e.reserveDebounceA, e.reserveDebounceB, 0]

def unitEntryBytes (e : UnitEntry) : List Byte := [natByte e.waterway.val] ++ halfBytes e.unitSilence ++ zeros 13

def waterwayEntryBytes (e : WaterwayEntry) : List Byte :=
  halfBytes e.settleTime ++ halfBytes e.waterwaySilence ++ zeros 12

def routeBytes (e : Route) : List Byte :=
  [boolByte e.enabled, modeCode e.fromMode, modeCode e.toMode, e.units, natByte e.firstPhase.val, natByte e.phaseCount]

def phaseBytes (e : Phase) : List Byte :=
  [e.command, modeCode e.landing] ++ wordBytes e.statusValue ++ wordBytes e.statusMask ++ halfBytes e.timeLimit ++
    [natByte e.retries, resourcesCode e.claim, resourcesCode e.keep, boolByte e.sendSetpoint]

def recognitionBytes (e : Recognition) : List Byte :=
  [boolByte e.enabled, natByte e.mode.val, e.units] ++ wordBytes e.value ++ wordBytes e.mask

def poolBytes (e : Pool) : List Byte := [e.members, natByte e.selectCounter.val]

def reserveBytes (e : ReserveEntry) : List Byte :=
  [e.apply.setWidth 8, reserveTargetByte e.target] ++ halfBytes e.setpoint

def matchBytes (e : MatchEntry) : List Byte :=
  [boolByte e.enabled, directionCode e.direction, e.kind.getD 0] ++ halfBytes e.identValue ++ halfBytes e.identMask ++
    [e.len.getD 0xFF, e.dataValue0, e.dataValue1, e.dataMask0, e.dataMask1, natByte e.cls.val]

def guardBytes (g : GuardRow) : List Byte :=
  [actionCode g.st, actionCode g.gen, actionCode g.pmp, actionCode g.sc, actionCode g.moving, actionCode g.unavailable,
    actionCode g.nonUnit]

def rowEntryBytes (e : RowEntry) : List Byte := [entryModeByte e.mode] ++ halfBytes e.setpoint

def rowBytes (r : Row) : List Byte :=
  [r.duration] ++ unitNumbers.flatMap fun u => rowEntryBytes r.entries[u.val]

/-- Table 11, index u (R165, R177). -/
def controlBytes (d : Duty) : List Byte :=
  (counterNumbers.map fun n => natByte (eventCode d.event[n.val])) ++
    [d.enable.setWidth 8, d.notify.setWidth 8, boolByte d.freezeOnOverflow, boolByte d.freeze, d.latches.setWidth 8,
      boolByte d.summary]

/-! ## Views -/

namespace State

/-- A free byte of the read in hand, by its place: entry index and offset (log 7). -/
def freeByte (s : State) (index offset : Nat) : Byte := Config.freeByte s.freeCount (index * 64 + offset)

/-- Free bytes for `n` places from an offset on (log 7). -/
def freeBytes (s : State) (index offset n : Nat) : List Byte :=
  (List.range n).map fun i => s.freeByte index (offset + i)

/-- A held telegram's KIND, class and LEN (R147). -/
def heldBytes (h : Held) : List Byte := [h.telegram.kind, natByte h.cls.val, lenByte h.telegram]

/-- Table 16 (R165, R147). -/
def unitRecordBytes (s : State) (u : UnitNo) : List Byte :=
  let r := s.unit u
  let held := r.holdQueue.flatMap heldBytes
  [unitModeCode r.mode, r.flags] ++ halfBytes (silenceRemaining s.now r.silenceDeadline) ++
    (match r.lastReport with
      | some p => wordBytes p.statusWord ++ halfBytes p.power ++ halfBytes p.speed
      | none => zeros 8) ++
    halfBytes r.lastSetpoint ++
    (match r.reserveClaim with
      | some c => [natByte (lineNumber c.line), modeCode c.target] ++ halfBytes c.setpoint
      | none => [0xFF, 0, 0, 0]) ++
    [natByte r.holdQueue.length] ++ (held ++ s.freeBytes u.val (19 + held.length) (12 - held.length)) ++ [0]

def targetTypeByte : Target → Byte
  | .unit _ => 0
  | .pool _ => 1

def targetByte : Target → Byte
  | .unit u => unitByte u
  | .pool p => natByte p.val

/-- Table 17: the order at a position, or an empty entry marked by ORIGIN 0 (R62). -/
def orderBytes (s : State) (k : Nat) : List Byte :=
  match s.orders[k]? with
  | some o =>
    halfBytes o.tag ++ [originCode o.origin, targetTypeByte o.target, targetByte o.target, modeCode o.mode] ++
      halfBytes o.setpoint ++ halfBytes o.age ++ halfBytes (secondsRemaining s.now o.expiry)
  | none => s.freeBytes k 0 2 ++ [0] ++ s.freeBytes k 3 9

def phaseStateByte : PhaseState → Byte
  | .waiting => 0
  | .running => 1

/-- Table 18 (R87). Of an absent CUT R87 states origin 0 and no tag: the two tag bytes are then free values (log 7). -/
def transitionBytes (s : State) (u : UnitNo) : List Byte :=
  match (s.unit u).transition with
  | some t =>
    [unitByte t.unit, natByte t.route.val, modeCode t.origin, modeCode t.target, originCode t.source] ++
      halfBytes t.reference ++ halfBytes t.setpoint ++
      [natByte t.phaseNo, phaseStateByte t.phaseState, natByte t.retriesUsed] ++
      halfBytes (remaining s.now 100 t.deadline) ++
      [(t.heldConverter.map fun c => natByte c.val).getD 0xFF, (t.heldWaterway.map fun w => natByte w.val).getD 0xFF,
        modeCode t.lastLanding] ++
      (match t.cut with
        | some c => [originCode c.origin] ++ halfBytes c.tag
        | none => [0] ++ s.freeBytes u.val 18 2)
  | none => [0, 0xFF] ++ zeros 18

/-- A wait-list entry (R103). -/
def waitBytes (s : State) (e : WaitEntry) : List Byte :=
  [unitByte e.unit, natByte e.rank] ++ halfBytes (natHalf ((s.now - e.requestTime) / 1000))

/-- A wait list in grant order, in 8 places from an offset on (R103, R165). -/
def waitListBytes (s : State) (index offset : Nat) (l : List WaitEntry) : List Byte :=
  let used := l.flatMap s.waitBytes
  used ++ s.freeBytes index (offset + used.length) (32 - used.length)

/-- State and granted unit of a converter (R103, R167). -/
def converterBytes (s : State) (c : ConverterNo) : List Byte :=
  match s.converter c with
  | some u => [1, unitByte u]
  | none => [0, 0xFF]

/-- Table 19, index 0 and 1 (R103). -/
def converterViewBytes (s : State) (c : ConverterNo) : List Byte :=
  s.converterBytes c ++ [natByte s.converterWait.length] ++ s.waitListBytes c.val 3 s.converterWait ++ zeros 9

def windowByte : Window → Byte
  | .free => 0
  | .held _ => 1
  | .settling _ => 2

/-- The holding unit, or 0xFF when not HELD (R103). -/
def holderByte : Window → Byte
  | .held u => unitByte u
  | .free => 0xFF
  | .settling _ => 0xFF

def settleRemaining (now : Time) : Window → Half
  | .settling d => remaining now 1000 d
  | .free => 0
  | .held _ => 0

/-- Table 19, index 2 and 3 (R103). -/
def waterwayViewBytes (s : State) (w : WaterwayNo) : List Byte :=
  let x := s.waterway w
  [windowByte x.window, holderByte x.window] ++ halfBytes (settleRemaining s.now x.window) ++
    [boolByte x.alarm, boolByte x.alarmSeen] ++ halfBytes (waterwaySilenceRemaining s.now x.silenceDeadline) ++
    halfBytes (x.lastLevel.getD 0xFFFF) ++ [natByte x.wait.length] ++ s.waitListBytes (2 + w.val) 11 x.wait ++ [0]

/-- The eight counters in the order of R156. -/
def counterBytes (c : Counters) : List Byte :=
  wordBytes c.receivedGood ++ wordBytes c.crcErrors ++ wordBytes c.malformed ++ wordBytes c.forwarded ++
    wordBytes c.droppedGuard ++ wordBytes c.droppedForeign ++ wordBytes c.originated ++ wordBytes c.transmitDrops

/-- Table 20 (R157). -/
def portBytes (q : PortState) : List Byte :=
  counterBytes q.counters ++
    [boolByte q.link, natByte q.originated.length, natByte q.forwarded.length, 0]

/-- Index 256 of table 10 while STOPPED: DURATION 0 and every ENTRY_MODE KEEP; no rule gives the setpoints (R127; log 7). -/
def stoppedRowBytes (s : State) : List Byte :=
  [0] ++ unitNumbers.flatMap fun u => [15] ++ s.freeBytes 256 (2 + 3 * u.val) 2

/-- Index 256 of table 10: the captured content while RUNNING (R127). -/
def currentRowBytes (s : State) : List Byte :=
  match s.program.running, s.program.captured with
  | true, some r => rowBytes r
  | true, none => s.stoppedRowBytes
  | false, _ => s.stoppedRowBytes

/-- Counter u × 4 + n (R177). -/
def counterBytesAt (s : State) (k : Nat) : List Byte :=
  match s.duty[k / 4]? with
  | some d => wordBytes (d.value[k % 4]?.getD 0)
  | none => []

/-- Entry `i` of a table in its read layout (R165); nothing past the table's last index. -/
def entryBytes (s : State) (t : Table) (i : Nat) : List Byte :=
  match t with
  | .plant =>
    if i = 0 then stationBytes s.plan.station
    else if i ≤ 8 then (s.plan.unitEntries[i - 1]?.map unitEntryBytes).getD []
    else (s.plan.waterwayEntries[i - 9]?.map waterwayEntryBytes).getD []
  | .route => (s.plan.routes[i]?.map routeBytes).getD []
  | .phase => (s.plan.phases[i]?.map phaseBytes).getD []
  | .recognition => (s.plan.recognition[i]?.map recognitionBytes).getD []
  | .pool => (s.plan.pools[i]?.map poolBytes).getD []
  | .reserve => (s.plan.reserve[i]?.map reserveBytes).getD []
  | .matching => (s.matchTable[i]?.map matchBytes).getD []
  | .guard => (s.guardTable[i]?.map guardBytes).getD []
  | .schedule => if i = 256 then s.currentRowBytes else (s.schedule[i]?.map rowBytes).getD []
  | .counterControl => if i = 8 then [boolByte s.globalFreeze] else (s.duty[i]?.map controlBytes).getD []
  | .counterValues => s.counterBytesAt i
  | .unitRecords => if h : i < 8 then s.unitRecordBytes ⟨i, h⟩ else []
  | .orderQueue => s.orderBytes i
  | .transitions => if h : i < 8 then s.transitionBytes ⟨i, h⟩ else []
  | .resources =>
    if h : i < 2 then s.converterViewBytes ⟨i, h⟩
    else if h : i - 2 < 2 then s.waterwayViewBytes ⟨i - 2, h⟩ else []
  | .portCounters => if i = 0 then portBytes s.plantPort else portBytes s.unitPort

/-- How many entries a READ_TABLE carries: the count, the last readable index and 60 bytes are the limits (R163). -/
def readLength (t : Table) (start count : Nat) : Nat :=
  min count (min (t.lastRead start + 1 - start) (60 / t.entrySize start))

/-- The entries of a READ_TABLE answer, back to back (R163). -/
def readEntries (s : State) (t : Table) (start count : Nat) : List Byte :=
  (List.range (readLength t start count)).flatMap fun i => s.entryBytes t (start + i)

end State
end Sys2Proof.Machine
end

