-- ==== Sys2Proof/Machine/Tables.lean ====
section
/-!
DEFINITION. What a WRITE_TABLE does to the table its number names (R164), with the effects of a change of the counts (R2, R106) and of a counter's EVENT (R177).
-/

namespace Sys2Proof.Machine
namespace State

/-! ## The plant table (R118, R2, R106) -/

/-- A unit's record when UNIT_COUNT changes from `old` to `new` (R2). -/
def unitAfterCount (s : State) (old new : Byte) (u : UnitNo) : UnitRecord :=
  let was := decide (u.val < old.toNat)
  let is := decide (u.val < new.toNat)
  if was && !is then UnitRecord.powerOn (hasUnit s.lines.trip u) none none
  else if !was && is then
    UnitRecord.powerOn (hasUnit s.lines.trip u) (some (s.inTenths s.plan.unitEntries[u.val].unitSilence))
      (debounceFrom s.now (hasUnit s.lines.out u) 100)
  else s.unit u

/-- A waterway when WATERWAY_COUNT changes from `old` to `new` (R106). -/
def waterwayAfterCount (s : State) (old new : Byte) (w : WaterwayNo) : Waterway :=
  let was := decide (w.val < old.toNat)
  let is := decide (w.val < new.toNat)
  if was && !is then Waterway.powerOn none
  else if !was && is then Waterway.powerOn (some (s.inTenths s.plan.waterwayEntries[w.val].waterwaySilence))
  else s.waterway w

/-- The units that enter service when UNIT_COUNT rises, in unit order. -/
def entering (old new : Byte) : List UnitNo :=
  unitNumbers.filter fun u => decide (old.toNat ≤ u.val) && decide (u.val < new.toNat)

/-- The records and waterways after a change of the counts (R2, R106). -/
def applyCounts (s : State) (e : Station) : State :=
  let o := s.plan.station
  { s with
    plan := { s.plan with station := e }
    units := #v[s.unitAfterCount o.unitCount e.unitCount 0, s.unitAfterCount o.unitCount e.unitCount 1,
      s.unitAfterCount o.unitCount e.unitCount 2, s.unitAfterCount o.unitCount e.unitCount 3,
      s.unitAfterCount o.unitCount e.unitCount 4, s.unitAfterCount o.unitCount e.unitCount 5,
      s.unitAfterCount o.unitCount e.unitCount 6, s.unitAfterCount o.unitCount e.unitCount 7],
    waterways := #v[s.waterwayAfterCount o.waterwayCount e.waterwayCount 0,
      s.waterwayAfterCount o.waterwayCount e.waterwayCount 1] }

/-- The station entry is replaced; units that enter service with their TRIP line asserted trip, in unit order (R2; log 24). -/
def writeStation (e : Station) (s : State) : State :=
  ((entering s.plan.station.unitCount e.unitCount).filter fun u => hasUnit s.lines.trip u).foldl
    (fun s u => s.tripEvent u 0) (s.applyCounts e)

/-- A plant table entry is replaced (R118). -/
def writePlant (i : Nat) (data : List Byte) (s : State) : Option State :=
  if i = 0 then (parseStation data).map fun e => s.writeStation e
  else if i ≤ 8 then
    (parseUnitEntry data).map fun e =>
      { s with plan := { s.plan with unitEntries := s.plan.unitEntries.setIfInBounds (i - 1) e } }
  else
    (parseWaterwayEntry data).map fun e =>
      { s with plan := { s.plan with waterwayEntries := s.plan.waterwayEntries.setIfInBounds (i - 9) e } }

/-! ## Counter control and values (R177) -/

/-- A counter's accumulator after a write of its EVENT: 0 if the EVENT changed (R177). -/
def keptAccumulator (d : Duty) (c : Control) (n : CounterNo) : Fin 1000 :=
  if d.event[n.val] = c.event[n.val] then d.accumulator[n.val] else 0

/-- Counter control written into a unit's record (R177). -/
def controlled (d : Duty) (c : Control) : Duty :=
  { d with
    event := c.event
    enable := c.enable
    notify := c.notify
    freezeOnOverflow := c.freezeOnOverflow
    accumulator := #v[keptAccumulator d c 0, keptAccumulator d c 1, keptAccumulator d c 2, keptAccumulator d c 3] }

/-- Table 11, index u is written (R177). -/
def writeControl (u : UnitNo) (c : Control) (s : State) : State := s.updDuty u fun d => controlled d c

/-- The value of counter u × 4 + n is replaced; latches, accumulator and FREEZE stay (R177). -/
def writeCounter (u : UnitNo) (n : CounterNo) (v : Word) (s : State) : State :=
  s.updDuty u fun d => { d with value := d.value.set n.val v }

/-- The counter at an index u × 4 + n below 32 (R161). -/
def counterAt (i : Fin 32) : UnitNo × CounterNo := (⟨i.val / 4, by omega⟩, ⟨i.val % 4, by omega⟩)

/-! ## Every table (R164) -/

/-- Entry i of a table is replaced by the entry in DATA; none where its owner answers BAD_VALUE (R164). -/
def storeEntry (t : Table) (i : Nat) (data : List Byte) (s : State) : Option State :=
  match t with
  | .plant => s.writePlant i data
  | .route =>
    (parseRoute data).map fun e => { s with plan := { s.plan with routes := s.plan.routes.setIfInBounds i e } }
  | .phase =>
    (parsePhase data).map fun e => { s with plan := { s.plan with phases := s.plan.phases.setIfInBounds i e } }
  | .recognition =>
    (parseRecognition data).map fun e =>
      { s with plan := { s.plan with recognition := s.plan.recognition.setIfInBounds i e } }
  | .pool =>
    (parsePool data).map fun e => { s with plan := { s.plan with pools := s.plan.pools.setIfInBounds i e } }
  | .reserve =>
    (parseReserve data).map fun e => { s with plan := { s.plan with reserve := s.plan.reserve.setIfInBounds i e } }
  | .matching => (parseMatch data).map fun e => { s with matchTable := s.matchTable.setIfInBounds i e }
  | .guard => (parseGuard data).map fun e => { s with guardTable := s.guardTable.setIfInBounds i e }
  | .schedule => (parseRow data).map fun e => { s with schedule := s.schedule.setIfInBounds i e }
  | .counterControl =>
    if h : i < 8 then (parseControl data).map fun c => s.writeControl ⟨i, h⟩ c else none
  | .counterValues =>
    if h : i < 32 then
      (parseValue data).map fun v => s.writeCounter (counterAt ⟨i, h⟩).1 (counterAt ⟨i, h⟩).2 v
    else none
  | .unitRecords => none
  | .orderQueue => none
  | .transitions => none
  | .resources => none
  | .portCounters => none

end State
end Sys2Proof.Machine
end

