-- ==== Sys2Proof/Machine/Management.lean ====
section
/-!
DEFINITION. The Management Responder (chapter 10): the checks of R160, every request of R161, and the answer (R159).
-/

namespace Sys2Proof.Machine

/-- TABLE, INDEX and DATA of a request (section 9.7). -/
structure Request where
  table : Byte
  index : Half
  data : List Byte
  deriving DecidableEq, Repr

/-- RESULT and DATA of an answer (R159). -/
structure Reply where
  result : Result
  data : List Byte
  deriving DecidableEq, Repr

/-- A result other than OK, with no DATA. -/
def Reply.bad (r : Result) : Reply := { result := r, data := [] }

/-- OK with DATA. -/
def Reply.ok (data : List Byte) : Reply := { result := .ok, data }

namespace State

/-- The unit in service that INDEX names, if any (R18, R20, R160 check 4; log 11). -/
def unitIndex (s : State) (i : Half) : Option UnitNo :=
  if h : i.toNat < 8 then
    if s.unitInService ⟨i.toNat, h⟩ then some ⟨i.toNat, h⟩ else none
  else none

/-! ## IDENTIFY and STATUS (R166, R167) -/

/-- The identity record (R166). -/
def identityBytes (s : State) : List Byte :=
  [0x01, 0x08, Config.revision, 8, 2, 2, 32, 128, 12, 4, 24] ++ halfBytes 256 ++ [16, 4, dispatcherCode s.dispatcher]

/-- The status record (R167). -/
def statusBytes (s : State) : List Byte :=
  [dispatcherCode s.dispatcher, boolByte s.program.running, s.program.run.start] ++ halfBytes s.program.run.length ++
    [boolByte s.program.run.loop, s.program.currentRow] ++
    halfBytes (secondsRemaining s.now (if s.program.running then s.program.rowDeadline else none)) ++
    [boolByte s.program.pendingRun.isSome] ++ (unitNumbers.map fun u => unitModeCode (s.unit u).mode) ++
    (unitNumbers.map fun u => (s.unit u).flags) ++ [natByte s.orders.length] ++ s.converterBytes 0 ++
    s.converterBytes 1 ++ [windowByte (s.waterway 0).window, windowByte (s.waterway 1).window] ++
    [s.levelByte, s.latchByte, s.summaryByte, s.linkByte]

/-- The latches that STATUS with INDEX 1 clears (R167). -/
def clearLatches (s : State) : State :=
  let s := unitNumbers.foldl (fun s u => s.updUnit u fun r => { r with tripSeen := false }) s
  let s := waterwayNumbers.foldl (fun s w => s.updWaterway w fun x => { x with alarmSeen := false }) s
  let s := s.updReserveLine .a fun x => { x with seen := false }
  let s := s.updReserveLine .b fun x => { x with seen := false }
  { s with masterSilenceSeen := false }

def identify (r : Request) (s : State) : State × Reply :=
  if r.data ≠ [] then (s, .bad .badValue) else (s, .ok s.identityBytes)

def status (r : Request) (s : State) : State × Reply :=
  if 1 < r.index.toNat then (s, .bad .badIndex)
  else if r.data ≠ [] then (s, .bad .badValue)
  else (if r.index = 1 then s.clearLatches else s, .ok s.statusBytes)

/-! ## READ_TABLE and WRITE_TABLE (R163, R164) -/

/-- The reads of views made so far, counted on (log 7). -/
def countRead (s : State) : State := { s with freeCount := s.freeCount + 1 }

def readTable (r : Request) (s : State) : State × Reply :=
  match tableOf r.table with
  | none => (s, .bad .noSuchTable)
  | some t =>
    if t.lastRead r.index.toNat < r.index.toNat then (s, .bad .badIndex)
    else
      match r.data with
      | [c] => if c = 0 then (s, .bad .badValue) else (s.countRead, .ok (s.readEntries t r.index.toNat c.toNat))
      | _ => (s, .bad .badValue)

def writeTable (r : Request) (s : State) : State × Reply :=
  match tableOf r.table with
  | none => (s, .bad .noSuchTable)
  | some t =>
    if t.writeCount = 0 then (s, .bad .noSuchTable)
    else if t.isPlan && s.dispatcher ≠ .unplanned then (s, .bad .planLocked)
    else if t.writeCount ≤ r.index.toNat then (s, .bad .badIndex)
    else
      match s.storeEntry t r.index.toNat r.data with
      | none => (s, .bad .badValue)
      | some s' => (s', .ok (s'.entryBytes t r.index.toNat))

/-! ## COMMIT and UNCOMMIT (R120, R125) -/

def commit (r : Request) (s : State) : State × Reply :=
  if r.data ≠ [] then (s, .bad .badValue)
  else if s.dispatcher ≠ .unplanned then (s, .bad .wrongState)
  else
    match s.commitWalk with
    | some (t, i) => (s, { result := .commitFailed, data := [natByte t] ++ halfBytes (natHalf i) })
    | none => (({ s with dispatcher := .directed }).startMasterSilence, .ok [])

def uncommit (r : Request) (s : State) : State × Reply :=
  if r.data ≠ [] then (s, .bad .badValue)
  else if s.dispatcher = .directed ∨ s.dispatcher = .autonomous then
    let s' := s.withdrawPlan
    (s', .ok [dispatcherCode s'.dispatcher])
  else (s, .bad .wrongState)

/-! ## Requests about a unit (R18, R20) -/

def setOut (r : Request) (s : State) : State × Reply :=
  match s.unitIndex r.index with
  | none => (s, .bad .badIndex)
  | some u =>
    match r.data with
    | [b] =>
      match yesNo b with
      | none => (s, .bad .badValue)
      | some v =>
        if v && (s.unit u).transition.isSome then (s, .bad .busy)
        else ((s.writeOutSource u fun x => { x with configuredOut := v }).drainCheck, .ok [])
    | _ => (s, .bad .badValue)

def forceMode (r : Request) (s : State) : State × Reply :=
  match s.unitIndex r.index with
  | none => (s, .bad .badIndex)
  | some u =>
    match r.data with
    | [b] =>
      match modeOf b with
      | none => (s, .bad .badValue)
      | some m =>
        if (s.unit u).mode = .unknown then (((s.changeMode u (.settled m)).startAttempt u).drainCheck, .ok [])
        else (s, .bad .wrongState)
    | _ => (s, .bad .badValue)

/-! ## PURGE_ORDER (R59) -/

/-- A queued DISPATCH order with a tag (R59). -/
def purgeable (tag : Half) (o : Order) : Bool := o.origin = .dispatch && o.tag = tag

/-- R59: the orders are withdrawn oldest first, then their units' start attempts follow (log 10). -/
def purgeOrder (r : Request) (s : State) : State × Reply :=
  if r.data ≠ [] then (s, .bad .badValue)
  else
    let gone := s.orders.filter (purgeable r.index)
    if gone = [] then (s, .bad .badIndex)
    else
      (gone.foldl (fun s o => s.attemptFor o) (s.withdrawOrders (purgeable r.index) .purged), .ok [natByte gone.length])

/-! ## The program (R129, R130) -/

def programStart (r : Request) (s : State) : State × Reply :=
  if r.data.length ≠ 4 then (s, .bad .badValue)
  else if s.dispatcher = .unplanned ∨ s.dispatcher = .draining then (s, .bad .wrongState)
  else
    match parseRun r.data with
    | none => (s, .bad .badValue)
    | some run =>
      (({ s with program := { s.program with
          running := true, run, currentRow := run.start, pendingRun := none } }).beginRow run.start, .ok [])

def programRenew (r : Request) (s : State) : State × Reply :=
  if r.data.length ≠ 4 then (s, .bad .badValue)
  else if !s.program.running then (s, .bad .wrongState)
  else
    match parseRun r.data with
    | none => (s, .bad .badValue)
    | some run => ({ s with program := { s.program with pendingRun := some run } }, .ok [])

def programStop (r : Request) (s : State) : State × Reply :=
  if r.data ≠ [] then (s, .bad .badValue) else (s.stopProgram, .ok [])

/-! ## Duty counters (R177, R178) -/

def counterWrite (r : Request) (s : State) : State × Reply :=
  if h : r.index.toNat < 32 then
    match parseValue r.data with
    | none => (s, .bad .badValue)
    | some v =>
      let k := counterAt ⟨r.index.toNat, h⟩
      (s.writeCounter k.1 k.2 v, .ok [])
  else (s, .bad .badIndex)

/-- FREEZE of unit u is set or cleared (R178). -/
def setFreeze (u : UnitNo) (b : Bool) (s : State) : State := s.updDuty u fun d => { d with freeze := b }

/-- The overflow and summary latches of unit u are cleared (R178). -/
def clearOverflow (s : State) (u : UnitNo) : State := s.updDuty u fun d => { d with latches := 0, summary := false }

/-- FREEZE actions on the unit at INDEX; an INDEX above 7 is BAD_INDEX (R161). -/
def freezeAction (b : Bool) (i : Half) (s : State) : State × Reply :=
  if h : i.toNat < 8 then (s.setFreeze ⟨i.toNat, h⟩ b, .ok []) else (s, .bad .badIndex)

/-- Action 5 (R178). -/
def clearAction (i : Half) (s : State) : State × Reply :=
  if h : i.toNat < 8 then (s.clearOverflow ⟨i.toNat, h⟩, .ok [])
  else if i = 0x00FF then (unitNumbers.foldl clearOverflow s, .ok [])
  else (s, .bad .badIndex)

/-- COUNTER_CONTROL: its action is checked before its INDEX (R161, R160). -/
def counterControl (r : Request) (s : State) : State × Reply :=
  match r.data with
  | [a] =>
    if a = 1 then ({ s with globalFreeze := true }, .ok [])
    else if a = 2 then ({ s with globalFreeze := false }, .ok [])
    else if a = 3 then s.freezeAction true r.index
    else if a = 4 then s.freezeAction false r.index
    else if a = 5 then s.clearAction r.index
    else (s, .bad .badValue)
  | _ => (s, .bad .badValue)

/-! ## READ_CLEAR (R156) -/

/-- The counters of a port are read and cleared as one event (R156). -/
def readClearPort (p : PortName) (s : State) : State × Reply :=
  (s.updCounters p fun _ => Counters.zero, .ok (counterBytes (s.port p).counters))

def readClear (r : Request) (s : State) : State × Reply :=
  if 1 < r.index.toNat then (s, .bad .badIndex)
  else if r.data ≠ [] then (s, .bad .badValue)
  else s.readClearPort (if r.index = 0 then .plant else .unit)

/-! ## Answers (R159, R160) -/

/-- The request with a code acts; a code of no request is NO_SUCH_REQUEST (R160, R161). RESET is taken elsewhere. -/
def handle (code : Byte) (r : Request) (s : State) : State × Reply :=
  match code.toNat with
  | 1 => s.identify r
  | 2 => s.status r
  | 3 => s.readTable r
  | 4 => s.writeTable r
  | 5 => s.commit r
  | 6 => s.uncommit r
  | 7 => s.setOut r
  | 8 => s.forceMode r
  | 9 => s.purgeOrder r
  | 10 => s.programStart r
  | 11 => s.programRenew r
  | 12 => s.programStop r
  | 13 => s.counterWrite r
  | 14 => s.counterControl r
  | 15 => s.readClear r
  | _ => (s, .bad .noSuchRequest)

/-- The answer is composed and placed in the plant port's originated queue, or dropped and counted (R159). -/
def answer (tag : Half) (code : Byte) (index : Half) (a : State × Reply) : State :=
  a.1.originate .plant (answerTelegram tag code a.2.result index a.2.data)

/-- RESET: its answer is placed and RESET_PENDING set; when the answer is dropped at its placing, the soft reset is made
within the same event (R169; log 5). -/
def resetRequest (tag : Half) (r : Request) (s : State) : State :=
  if r.data ≠ [] then answer tag 16 r.index (s, .bad .badValue)
  else if s.canOriginate .plant then { answer tag 16 r.index (s, .ok []) with resetPending := true }
  else (answer tag 16 r.index (s, .ok [])).softResetEvent s.lines

/-- A request with a whole request header (R160). -/
def respondTo (tag : Half) (code : Byte) (r : Request) (s : State) : State :=
  if code = 16 then s.resetRequest tag r else answer tag code r.index (s.handle code r)

/-- A MANAGEMENT REQUEST is taken: without effect or answer while RESET_PENDING is set, BAD_VALUE when it is shorter than a
request header, else by its code (R159, R169). -/
def respond (tag : Half) (payload : List Byte) (s : State) : State :=
  if s.resetPending then s
  else
    match payload with
    | code :: table :: i1 :: i0 :: data => s.respondTo tag code { table, index := half i1 i0, data }
    | [] => answer tag 0 0 (s, .bad .badValue)
    | code :: _ => answer tag code 0 (s, .bad .badValue)

end State
end Sys2Proof.Machine
end

