-- ==== Sys2Proof/Machine/Waterways.lean ====
section
/-!
DEFINITION. Waterway reports, alarms and settling (R98 to R101).
-/

namespace Sys2Proof.Machine
namespace State

/-- The waterway in service at a station address, if any (R99, R136). -/
def waterwayAt (s : State) (addr : Byte) : Option WaterwayNo :=
  waterwayNumbers.find? fun w => s.waterwayInService w && addr = natByte (0x1A + w.val)

/-- SUBJECT of a waterway's alert. -/
def waterwayByte (w : WaterwayNo) : Byte := natByte w.val

/-- ALARM and ALARM_SEEN are set, with the alert (R99, R100). -/
def raiseAlarm (w : WaterwayNo) (detail : Half) (s : State) : State :=
  (s.updWaterway w fun x => { x with alarm := true, alarmSeen := true }).sendAlert .waterwayAlarm (waterwayByte w) detail

/-- ALARM is cleared, with the alert and the grant that may follow (R99, R98). -/
def clearAlarm (w : WaterwayNo) (s : State) : State :=
  ((s.updWaterway w fun x => { x with alarm := false }).sendAlert .waterwayAlarm (waterwayByte w) 0).serveWindow w

/-- A report of 3 bytes from waterway w in service (R99). -/
def readWaterwayReport (w : WaterwayNo) (alarm : Byte) (level : Half) (s : State) : State :=
  let s := s.updWaterway w fun x =>
    { x with
      silenceDeadline := some (s.inTenths s.plan.waterwayEntries[w.val].waterwaySilence)
      lastLevel := some level }
  match (s.waterway w).alarm, decide (alarm = 0) with
  | false, true => s
  | false, false => s.raiseAlarm w 1
  | true, false => s
  | true, true => s.clearAlarm w

/-- A WATERWAY REPORT is read when its LEN is 3 and it comes from a waterway in service (R99, R136). -/
def takeWaterwayReport (t : Telegram) (s : State) : State :=
  match s.waterwayAt t.src, t.payload with
  | some w, [a, l1, l0] => s.readWaterwayReport w a (half l1 l0)
  | _, _ => s

/-- The silence timer of waterway w expires (R100). -/
def waterwayFallsSilent (w : WaterwayNo) (s : State) : State :=
  let s := s.updWaterway w fun x => { x with silenceDeadline := none }
  if (s.waterway w).alarm then s else s.raiseAlarm w 2

/-- Settling of waterway w ends (R98). -/
def endSettling (w : WaterwayNo) (s : State) : State :=
  (s.updWaterway w fun x => { x with window := .free }).serveWindow w

end State
end Sys2Proof.Machine
end

