-- ==== Sys2Proof/Machine/Path.lean ====
section
/-!
DEFINITION. Frames and telegrams arriving on a port (R150, R151), their routing (R135, R136), and the arrival checks 1 to 4 of a DISPATCH ORDER (R42 to R45).
-/

namespace Sys2Proof.Machine

/-! ## DISPATCH ORDER (R42 to R47) -/

/-- The payload of a DISPATCH ORDER (section 9.7). -/
structure OrderFields where
  targetType : Byte
  target : Byte
  mode : Byte
  setpoint : Half
  validity : Half
  deriving DecidableEq, Repr

/-- Check 1: LEN is 7, TARGET_TYPE is 0 or 1 and SETPOINT is at most 4000 (R43). -/
def parseOrder : List Byte → Option OrderFields
  | [tt, t, m, s1, s0, v1, v0] =>
    within ((tt = 0 || tt = 1) && setpointOk (half s1 s0))
      { targetType := tt, target := t, mode := m, setpoint := half s1 s0, validity := half v1 v0 }
  | _ => none

/-- UNIT of a refused order: the TARGET byte as received, or 0xFF for a pool order (R61). -/
def OrderFields.unitByte (o : OrderFields) : Byte := if o.targetType = 0 then o.target else 0xFF

namespace State

/-- Check 3: the unit, or the pool with members, that the order names (R45). -/
def orderTarget (s : State) (o : OrderFields) : Option Target :=
  if o.targetType = 0 then
    if h : o.target.toNat < 8 then
      if s.unitInService ⟨o.target.toNat, h⟩ then some (.unit ⟨o.target.toNat, h⟩) else none
    else none
  else if h : o.target.toNat < 4 then
    if s.plan.pools[o.target.toNat].members = 0 then none else some (.pool ⟨o.target.toNat, h⟩)
  else none

/-- REFUSED at checks 2 to 4 (R42, R61). -/
def refuseFields (tag : Half) (o : OrderFields) (r : Reason) (s : State) : State :=
  s.sendStatus tag .refused r o.unitByte o.mode .dispatch

/-- The reason of check 3 (R45). -/
def noTargetReason (o : OrderFields) : Reason := if o.targetType = 0 then .noSuchUnit else .noSuchPool

/-- EXPIRY of an accepted order: VALIDITY seconds from acceptance, none for VALIDITY 0 (R47). -/
def expiryOf (s : State) (validity : Half) : Option Time :=
  if validity = 0 then none else some (s.inSeconds validity)

/-- Checks 3 and 4, then checks 5 to 8 and acceptance (R45, R42). -/
def judgeOrder (tag : Half) (o : OrderFields) (s : State) : State :=
  match s.orderTarget o with
  | none => s.refuseFields tag o (noTargetReason o)
  | some target =>
    match modeOf o.mode with
    | none => s.refuseFields tag o .badMode
    | some m =>
      s.queueOrder
        { claim := { origin := .dispatch, tag, mode := m, setpoint := o.setpoint }, target,
          expiry := s.expiryOf o.validity }

/-- A DISPATCH ORDER is taken through the arrival checks (R42); in AUTONOMOUS an order that passes check 1 returns the
dispatcher to DIRECTED before check 3 (R44, R124). -/
def takeOrder (tag : Half) (payload : List Byte) (s : State) : State :=
  match parseOrder payload with
  | none => s.sendStatus tag .refused .malformed 0xFF 0xFF .dispatch
  | some o =>
    match s.dispatcher with
    | .unplanned => s.refuseFields tag o .notPlanned
    | .draining => s.refuseFields tag o .draining
    | .directed => s.judgeOrder tag o
    | .autonomous => s.returnDirected.judgeOrder tag o

/-! ## Routing (R135, R136) -/

/-- The master silence report of R135: a telegram on the plant port with SRC 0x02. -/
def reportMaster (p : PortName) (t : Telegram) (s : State) : State :=
  if p = .plant ∧ t.src = 0x02 then s.masterHeard else s

/-- A good telegram is routed by its kind, destination and port (R135). -/
def routeTelegram (p : PortName) (t : Telegram) (s : State) : State :=
  match routeOf p t with
  | .order => s.takeOrder t.tag t.payload
  | .request => s.respond t.tag t.payload
  | .unitReport => (s.takeUnitReport t).forwardTo .plant t
  | .waterwayReport => (s.takeWaterwayReport t).forwardTo .plant t
  | .supervisory => s.judge p t
  | .foreign => s.countDroppedForeign p

/-- The part's own driver drives port p's receiver: on the unit port, whose segment is shared, from the beginning of
a transmission to its end (R149, R153; log 27). The plant port's own transmissions do not reach its receiver. -/
def drivesLine (s : State) : PortName → Bool
  | .plant => false
  | .unit => s.unitPort.transmitting.isSome

/-- A frame that ends on port p is received: the link state is UP (R150), and the line activity is not that of the
unit segment under the part's own driver, for which no check and no count is made (R149). -/
def receives (s : State) (p : PortName) : Bool := (s.port p).link && !s.drivesLine p

/-- A telegram whose frame ends on port p: nothing while the port does not receive, MALFORMED when it is too long for
a frame, else counted as good and handed to the Telegram Path (R149, R150, R151; log 15). -/
def takeTelegram (p : PortName) (t : Telegram) (s : State) : State :=
  if !s.receives p then s
  else if 64 < t.payload.length then s.countMalformed p
  else ((s.countReceivedGood p).reportMaster p t).routeTelegram p t

/-- A frame that ends on port p (R149, R150). -/
def takeFrame (p : PortName) (bytes : List Byte) (s : State) : State :=
  if !s.receives p then s
  else
    match checkFrame bytes with
    | .malformed => s.countMalformed p
    | .crcError => s.countCrcError p
    | .good t => s.takeTelegram p t

end State
end Sys2Proof.Machine
end

