-- ==== Sys2Proof/Machine/Arrivals.lean ====
section
/-!
DEFINITION. The commands that bring a good telegram and are no management request: DROPPED_FOREIGN, DISPATCH_ORDER, UNIT_REPORT, WATERWAY_REPORT, SUPERVISORY_TELEGRAM. Each telegram acts by its bytes (R135; log 15).
-/

namespace Sys2Proof.Machine

/-- DROPPED_FOREIGN (R135, R138). -/
def execDroppedForeign (p : PortName) (t : Telegram) (s : State) : Host.Outcome State Fault Refusal :=
  .next (s.takeTelegram p t)

/-- DISPATCH_ORDER (R42). -/
def execDispatchOrder (src : Byte) (ident tag : Half) (payload : List Byte) (s : State) :
    Host.Outcome State Fault Refusal :=
  .next (s.takeTelegram .plant (orderTelegram src ident tag payload))

/-- UNIT_REPORT (R6 to R9, R136). -/
def execUnitReport (dst src : Byte) (ident tag : Half) (payload : List Byte) (s : State) :
    Host.Outcome State Fault Refusal :=
  .next (s.takeTelegram .unit (unitReportTelegram dst src ident tag payload))

/-- WATERWAY_REPORT (R99, R136). -/
def execWaterwayReport (dst src : Byte) (ident tag : Half) (payload : List Byte) (s : State) :
    Host.Outcome State Fault Refusal :=
  .next (s.takeTelegram .unit (waterwayReportTelegram dst src ident tag payload))

/-- SUPERVISORY_TELEGRAM (R143). -/
def execSupervisoryTelegram (p : PortName) (t : Telegram) (s : State) : Host.Outcome State Fault Refusal :=
  .next (s.takeTelegram p t)

end Sys2Proof.Machine
end

