-- ==== Sys2Proof/Machine/Reserve.lean ====
section
/-!
DEFINITION. The Reserve Unit (chapter 6): assertion events, claim formation and the acting on claims (R111 to R113).
-/

namespace Sys2Proof.Machine

/-- The effective mode of an available unit: its transition's TARGET, else its MODE (R112). -/
def UnitRecord.effectiveMode (r : UnitRecord) : Option Mode :=
  match r.transition, r.mode with
  | some t, _ => some t.target
  | none, .settled m => some m
  | none, .tripped => none
  | none, .out => none
  | none, .unknown => none

namespace State

/-- Line l's entry for unit u: index l × 8 + u (R108). -/
def reserveEntry (s : State) : ReserveLine → UnitNo → ReserveEntry
  | .a, u => s.plan.reserve[u.val]
  | .b, u => s.plan.reserve[8 + u.val]

/-- The claim that an assertion of line l forms for unit u, if it forms one (R112). -/
def claimFor (s : State) (l : ReserveLine) (u : UnitNo) : Option ReserveClaim :=
  let e := s.reserveEntry l u
  if s.unitInService u && (s.unit u).available then
    match e.target, (s.unit u).effectiveMode with
    | some n, some m =>
      if hasMode e.apply m && m ≠ n then some { line := l, target := n, setpoint := e.setpoint } else none
    | _, _ => none
  else none

/-- A pending reserve claim of u ends SUPERSEDED; a CUT that names it is cleared (R112 step 1). -/
def supersedeReserve (u : UnitNo) (s : State) : State :=
  match (s.unit u).reserveClaim with
  | none => s
  | some c =>
    ((s.updUnit u fun r => { r with reserveClaim := none }).clearCut u .reserve c.claim.tag).sendClaimStatus u c.claim
      .superseded .none

/-- A claim is formed for unit u (R112). -/
def formClaim (u : UnitNo) (c : ReserveClaim) (s : State) : State :=
  ((s.supersedeReserve u).supersedeQueued u).updUnit u fun r => { r with reserveClaim := some c }

/-- The claims that an assertion of line l forms, in unit order (R112). Forming one changes nothing that another
depends on. -/
def claimsOf (s : State) (l : ReserveLine) : List (UnitNo × ReserveClaim) :=
  unitNumbers.filterMap fun u => (s.claimFor l u).map fun c => (u, c)

/-- Every claim is formed (R112). -/
def formClaims (cs : List (UnitNo × ReserveClaim)) (s : State) : State :=
  cs.foldl (fun s uc => s.formClaim uc.1 uc.2) s

/-- The Reserve Unit acts on each new claim in unit order (R113). -/
def actOnClaims (cs : List (UnitNo × ReserveClaim)) (s : State) : State :=
  cs.foldl (fun s uc => s.actOn uc.1 uc.2.claim) s

/-- SUBJECT of a line's alert. -/
def lineByte (l : ReserveLine) : Byte := natByte (lineNumber l)

/-- What follows RESERVE_SEEN at an assertion event (R111 to R113). -/
def assertLine (l : ReserveLine) (s : State) : State :=
  if s.dispatcher = .unplanned then s.sendAlert .reserveIgnored (lineByte l) 0
  else
    let cs := s.claimsOf l
    (((s.formClaims cs).sendAlert .reserve (lineByte l) (natHalf cs.length)).actOnClaims cs).drainCheck

end State
end Sys2Proof.Machine
end

