-- ==== Sys2Proof/Machine/InputLines.lean ====
section
/-!
DEFINITION. The commands of the hardwired inputs: the TRIP lines (R11), the OUT lines (R16) and the RESERVE lines (R107, R111).
-/

namespace Sys2Proof.Machine

/-- A set of units with unit u's bit as given. -/
def withBit (units : Byte) (u : UnitNo) (b : Bool) : Byte :=
  if b then units ||| BitVec.twoPow 8 u.val else units &&& ~~~ BitVec.twoPow 8 u.val

namespace State

/-- TRIP line u's level as reported. -/
def setTripLine (u : UnitNo) (b : Bool) (s : State) : State :=
  { s with lines := { s.lines with trip := withBit s.lines.trip u b } }

/-- OUT line u's level as reported. -/
def setOutLine (u : UnitNo) (b : Bool) (s : State) : State :=
  { s with lines := { s.lines with out := withBit s.lines.out u b } }

/-- A RESERVE line's level as reported. -/
def setReserveLine (l : ReserveLine) (b : Bool) (s : State) : State :=
  match l with
  | .a => { s with lines := { s.lines with reserveA := b } }
  | .b => { s with lines := { s.lines with reserveB := b } }

/-- TRIP_INPUT of unit u follows its line; becoming set is a trip event for a unit in service (R11, R2). -/
def tripInputSet (u : UnitNo) (s : State) : State :=
  let was := (s.unit u).tripInput
  let s := (s.setTripLine u true).updUnit u fun r => { r with tripInput := true }
  if s.unitInService u && !was then (s.tripAndAttempt u 0).drainCheck else s

/-- TRIP_INPUT becoming clear changes nothing else (R11). -/
def tripInputClear (u : UnitNo) (s : State) : State :=
  (s.setTripLine u false).updUnit u fun r => { r with tripInput := false }

/-- OUT_INPUT of unit u takes a debounced level; the OUT line of a unit not in service has no effect on its record
(R16, R2). -/
def outInputTakes (u : UnitNo) (b : Bool) (s : State) : State :=
  let s := s.setOutLine u b
  if s.unitInService u then
    ((s.updUnit u fun r => { r with outDebounce := none }).writeOutSource u fun r => { r with outInput := b }).drainCheck
  else s

/-- The debounced level of a line becomes asserted: RESERVE_SEEN, then claims or RESERVE_IGNORED (R111). While the level
stays asserted there is no further event (R107). -/
def lineAsserts (l : ReserveLine) (s : State) : State :=
  let was := (s.reserveLine l).level
  let s := (s.setReserveLine l true).updReserveLine l fun x => { x with level := true, debounce := none }
  if was then s else (s.updReserveLine l fun x => { x with seen := true }).assertLine l

/-- A release changes the debounced level and nothing else (R107). -/
def lineReleases (l : ReserveLine) (s : State) : State :=
  (s.setReserveLine l false).updReserveLine l fun x => { x with level := false, debounce := none }

end State

/-- TRIP_LINE_ASSERTED (R11, R12). -/
def execTripLineAsserted (u : UnitNo) (s : State) : Host.Outcome State Fault Refusal := .next (s.tripInputSet u)

/-- TRIP_LINE_CLEARED (R11). -/
def execTripLineCleared (u : UnitNo) (s : State) : Host.Outcome State Fault Refusal := .next (s.tripInputClear u)

/-- OUT_INPUT_SET (R16, R17). -/
def execOutInputSet (u : UnitNo) (s : State) : Host.Outcome State Fault Refusal := .next (s.outInputTakes u true)

/-- OUT_INPUT_CLEAR (R16, R19). -/
def execOutInputClear (u : UnitNo) (s : State) : Host.Outcome State Fault Refusal := .next (s.outInputTakes u false)

/-- ASSERTION_EVENT (R111). -/
def execAssertionEvent (line : ReserveLine) (s : State) : Host.Outcome State Fault Refusal := .next (s.lineAsserts line)

/-- RESERVE_RELEASE (R107). -/
def execReserveRelease (line : ReserveLine) (s : State) : Host.Outcome State Fault Refusal := .next (s.lineReleases line)

end Sys2Proof.Machine
end

