-- ==== Sys2Proof/Machine/Ports.lean ====
section
/-!
DEFINITION. The link ports (chapter 9) and the resets: LINK_UP, LINK_DOWN, TRANSMIT_START, TRANSMISSION_END, FRAME_DISCARDED, POWER_ON_RESET, SOFT_RESET.
-/

namespace Sys2Proof.Machine

/-! ## Transmission (R153) -/

/-- The answer OK to a RESET request (R169): a management answer with REQUEST 16 and RESULT OK (log 19). -/
def isResetAnswer (t : Telegram) : Bool := t.kind = 0x04 && t.payload.take 2 = [16, 0]

namespace State

/-- A telegram is taken for transmission from a queue whose rest is `rest` (R153). It is sent within the next
millisecond (log 16). -/
def beginTransmission (p : PortName) (queue : QueueName) (t : Telegram) (rest : List Telegram) (s : State) : State :=
  let x : Transmission := { telegram := t, queue, counted := true, ends := s.now + 1 }
  s.updPort p fun q =>
    match queue with
    | .originated => { q with originated := rest, transmitting := some x }
    | .forwarded => { q with forwarded := rest, transmitting := some x }

/-- Port p's transmitter is free and its link state is UP (R153). -/
def mayTransmit (s : State) (p : PortName) : Bool := (s.port p).link && (s.port p).transmitting.isNone

/-- The next telegram is taken: the head of the originated queue, else of the forwarded queue (R153). -/
def startTransmission (p : PortName) (s : State) : State :=
  if s.mayTransmit p then
    match (s.port p).originated, (s.port p).forwarded with
    | t :: rest, _ => s.beginTransmission p .originated t rest
    | [], t :: rest => s.beginTransmission p .forwarded t rest
    | [], [] => s
  else s

/-- A telegram sent complete is counted by the queue it came from (R153). -/
def countSent (p : PortName) (queue : QueueName) : State → State :=
  updCounters p fun c =>
    match queue with
    | .originated => { c with originated := saturate c.originated 1 }
    | .forwarded => { c with forwarded := saturate c.forwarded 1 }

/-- The telegrams `ts` have left port p, or were cut off or emptied there. With the answer to a pending RESET among
them the plant port makes its report, and the soft reset is carried out within the same event, with the lines as
last reported (R158, R169; log 5). -/
def answerGone (p : PortName) (ts : List Telegram) (s : State) : State :=
  if p = .plant ∧ s.resetPending = true ∧ ts.any isResetAnswer = true then s.softResetEvent s.lines else s

/-- The soft reset may come: RESET_PENDING is set, and the answer stands in the plant port's queue no longer (R169, R170). -/
def resetDue (s : State) : Bool := s.resetPending && !s.plantPort.originated.any isResetAnswer

/-- The answer to RESET, if it is in transmission, has been sent complete (R158). -/
def answerLeaves (s : State) : State :=
  s.updPort .plant fun q => { q with transmitting := q.transmitting.filter fun x => !isResetAnswer x.telegram }

/-- A transmission ends complete (R153, R158). -/
def endTransmission (p : PortName) (s : State) : State :=
  match (s.port p).transmitting with
  | none => s
  | some x =>
    let s := s.updPort p fun q => { q with transmitting := none }
    let s := if x.counted then s.countSent p x.queue else s
    s.answerGone p [x.telegram]

/-! ## Link state (R154, R155) -/

/-- LINK_OK has held asserted for 100 ms (R154). -/
def linkRises (p : PortName) (s : State) : State :=
  s.updPort p fun q => { q with link := true, linkOk := true, linkFilter := none }

/-- What an UP port loses when its link goes DOWN: the telegram in transmission and both queues (R155). -/
def lostTelegrams (q : PortState) : List Telegram :=
  (q.transmitting.map fun x => x.telegram).toList ++ q.originated ++ q.forwarded

/-- LINK_OK has held deasserted for 100 ms: an UP port becomes DOWN with the effects of R155. -/
def linkFalls (p : PortName) (s : State) : State :=
  let lost := if (s.port p).link then lostTelegrams (s.port p) else []
  let s := s.updPort p fun q =>
    { q with link := false, linkOk := false, linkFilter := none }
  if lost = [] then s
  else
    ((s.updPort p fun q => { q with originated := [], forwarded := [], transmitting := none }).countTransmitDrops p
      lost.length).answerGone p lost

end State

/-! ## The commands -/

/-- POWER_ON_RESET (R22, R104, R116, R133, R158, R171, R179). -/
def execPowerOnReset (lines : Lines) (plantLinkOk unitLinkOk : Bool) (s : State) : Host.Outcome State Fault Refusal :=
  .next (s.powerOnEvent lines plantLinkOk unitLinkOk)

/-- SOFT_RESET (R170): while RESET_PENDING is set and the answer to RESET is queued no longer, the event of the
plant port's report with the reset that it brings (R169; log 5), with the lines sampled as the command gives them. -/
def execSoftReset (lines : Lines) (s : State) : Host.Outcome State Fault Refusal :=
  .next (if s.resetDue then s.answerLeaves.softResetEvent lines else s)

/-- LINK_UP (R154). -/
def execLinkUp (p : PortName) (s : State) : Host.Outcome State Fault Refusal := .next (s.linkRises p)

/-- LINK_DOWN (R154, R155). -/
def execLinkDown (p : PortName) (s : State) : Host.Outcome State Fault Refusal := .next (s.linkFalls p)

/-- FRAME_DISCARDED (R150). -/
def execFrameDiscarded (p : PortName) (bytes : List Byte) (s : State) : Host.Outcome State Fault Refusal :=
  .next (s.takeFrame p bytes)

/-- TRANSMIT_START (R153). -/
def execTransmitStart (p : PortName) (s : State) : Host.Outcome State Fault Refusal := .next (s.startTransmission p)

/-- TRANSMISSION_END (R153, R158). -/
def execTransmissionEnd (p : PortName) (s : State) : Host.Outcome State Fault Refusal := .next (s.endTransmission p)

end Sys2Proof.Machine
end

