-- ==== Sys2Proof/Machine/Requests.lean ====
section
/-!
DEFINITION. The management requests as commands: each is a MANAGEMENT REQUEST telegram arriving on the plant port (R159), so it restarts master silence and is counted as any good telegram is.
-/

namespace Sys2Proof.Machine

/-- A management request with a whole request header arrives on the plant port (R135, R159). -/
def State.takeRequest (h : RequestHead) (code : Byte) (data : List Byte) (s : State) : State :=
  s.takeTelegram .plant (requestTelegram h code data)

/-- IDENTIFY (R166). -/
def execIdentify (h : RequestHead) (data : List Byte) (s : State) : Host.Outcome State Fault Refusal :=
  .next (s.takeRequest h 1 data)

/-- STATUS (R167). -/
def execStatus (h : RequestHead) (data : List Byte) (s : State) : Host.Outcome State Fault Refusal :=
  .next (s.takeRequest h 2 data)

/-- READ_TABLE (R163). -/
def execReadTable (h : RequestHead) (data : List Byte) (s : State) : Host.Outcome State Fault Refusal :=
  .next (s.takeRequest h 3 data)

/-- WRITE_TABLE (R164). -/
def execWriteTable (h : RequestHead) (data : List Byte) (s : State) : Host.Outcome State Fault Refusal :=
  .next (s.takeRequest h 4 data)

/-- COMMIT (R120). -/
def execCommit (h : RequestHead) (data : List Byte) (s : State) : Host.Outcome State Fault Refusal :=
  .next (s.takeRequest h 5 data)

/-- UNCOMMIT (R125). -/
def execUncommit (h : RequestHead) (data : List Byte) (s : State) : Host.Outcome State Fault Refusal :=
  .next (s.takeRequest h 6 data)

/-- SET_OUT (R18). -/
def execSetOut (h : RequestHead) (data : List Byte) (s : State) : Host.Outcome State Fault Refusal :=
  .next (s.takeRequest h 7 data)

/-- FORCE_MODE (R20). -/
def execForceMode (h : RequestHead) (data : List Byte) (s : State) : Host.Outcome State Fault Refusal :=
  .next (s.takeRequest h 8 data)

/-- PURGE_ORDER (R59). -/
def execPurgeOrder (h : RequestHead) (data : List Byte) (s : State) : Host.Outcome State Fault Refusal :=
  .next (s.takeRequest h 9 data)

/-- PROGRAM_START (R129). -/
def execProgramStart (h : RequestHead) (data : List Byte) (s : State) : Host.Outcome State Fault Refusal :=
  .next (s.takeRequest h 10 data)

/-- PROGRAM_RENEW (R130). -/
def execProgramRenew (h : RequestHead) (data : List Byte) (s : State) : Host.Outcome State Fault Refusal :=
  .next (s.takeRequest h 11 data)

/-- PROGRAM_STOP (R130). -/
def execProgramStop (h : RequestHead) (data : List Byte) (s : State) : Host.Outcome State Fault Refusal :=
  .next (s.takeRequest h 12 data)

/-- COUNTER_WRITE (R177). -/
def execCounterWrite (h : RequestHead) (data : List Byte) (s : State) : Host.Outcome State Fault Refusal :=
  .next (s.takeRequest h 13 data)

/-- GLOBAL_FREEZE_SET: COUNTER_CONTROL with action 1 (R178). -/
def execGlobalFreezeSet (h : RequestHead) (s : State) : Host.Outcome State Fault Refusal :=
  .next (s.takeRequest h 14 [1])

/-- GLOBAL_FREEZE_CLEAR: COUNTER_CONTROL with action 2 (R178). -/
def execGlobalFreezeClear (h : RequestHead) (s : State) : Host.Outcome State Fault Refusal :=
  .next (s.takeRequest h 14 [2])

/-- UNIT_FREEZE_SET: COUNTER_CONTROL with action 3 (R178). -/
def execUnitFreezeSet (h : RequestHead) (s : State) : Host.Outcome State Fault Refusal :=
  .next (s.takeRequest h 14 [3])

/-- UNIT_FREEZE_CLEAR: COUNTER_CONTROL with action 4 (R178). -/
def execUnitFreezeClear (h : RequestHead) (s : State) : Host.Outcome State Fault Refusal :=
  .next (s.takeRequest h 14 [4])

/-- CLEAR_OVERFLOW_LATCHES: COUNTER_CONTROL with action 5 (R178). -/
def execClearOverflowLatches (h : RequestHead) (s : State) : Host.Outcome State Fault Refusal :=
  .next (s.takeRequest h 14 [5])

/-- READ_CLEAR (R156). -/
def execReadClear (h : RequestHead) (data : List Byte) (s : State) : Host.Outcome State Fault Refusal :=
  .next (s.takeRequest h 15 data)

/-- RESET (R169). -/
def execReset (h : RequestHead) (data : List Byte) (s : State) : Host.Outcome State Fault Refusal :=
  .next (s.takeRequest h 16 data)

/-- NO_SUCH_REQUEST (R160). -/
def execNoSuchRequest (h : RequestHead) (code : Byte) (data : List Byte) (s : State) : Host.Outcome State Fault Refusal :=
  .next (s.takeRequest h code data)

/-- SHORT_MANAGEMENT_REQUEST (R159). -/
def execShortManagementRequest (src : Byte) (ident tag : Half) (payload : List Byte) (s : State) :
    Host.Outcome State Fault Refusal :=
  .next (s.takeTelegram .plant (rawRequestTelegram src ident tag payload))

/-- REQUEST_WHILE_RESET_PENDING (R169). -/
def execRequestWhileResetPending (src : Byte) (ident tag : Half) (payload : List Byte) (s : State) :
    Host.Outcome State Fault Refusal :=
  .next (s.takeTelegram .plant (rawRequestTelegram src ident tag payload))

/-- COUNTER_CONTROL_BAD_VALUE (R161). -/
def execCounterControlBadValue (h : RequestHead) (data : List Byte) (s : State) : Host.Outcome State Fault Refusal :=
  .next (s.takeRequest h 14 data)

end Sys2Proof.Machine
end

