-- ==== Sys2Proof/Machine/Timers.lean ====
section
/-!
DEFINITION. The commands of the part's own deadlines. Each acts once its deadline has been reached, and changes nothing before (log 2).
-/

namespace Sys2Proof.Machine
namespace State

/-- A deadline that has been reached acts; one that has not does nothing (log 2). -/
def whenDue (due : Bool) (f : State → State) (s : State) : State := if due then f s else s

/-- The phase deadline of unit u's transition has been reached (R74). -/
def phaseDue (s : State) (u : UnitNo) : Bool :=
  match (s.unit u).transition with
  | some t => t.phaseState = .running && t.deadline ≤ s.now
  | none => false

/-- The wait deadline of unit u's transition has been reached (R70). -/
def waitDue (s : State) (u : UnitNo) : Bool :=
  match (s.unit u).transition with
  | some t => t.phaseState = .waiting && t.deadline ≤ s.now
  | none => false

/-- The settle deadline of waterway w has been reached (R98). -/
def settleDue (s : State) (w : WaterwayNo) : Bool :=
  match (s.waterway w).window with
  | .settling d => d ≤ s.now
  | .free => false
  | .held _ => false

/-- The master silence timer has run out in DIRECTED (R123). -/
def masterDue (s : State) : Bool := s.dispatcher = .directed && s.reached s.masterDeadline

/-- The row deadline has been reached while the program is RUNNING (R132). -/
def rowDue (s : State) : Bool := s.program.running && s.reached s.program.rowDeadline

/-- A phase deadline expires: a retry, or the failure with the start attempt and the drain notice of the end (R74, R75, R86). -/
def phaseExpires (u : UnitNo) (s : State) : State :=
  match (s.unit u).transition with
  | none => s
  | some t =>
    if t.retriesUsed < (s.currentPhase t).retries then s.retryPhase u t
    else ((s.timeoutPhase u t).startAttempt u).drainCheck

/-- A wait deadline expires: the transition fails with RESOURCE_WAIT (R70, R86). -/
def waitExpires (u : UnitNo) (s : State) : State :=
  ((s.endTransition u .failed .resourceWait false).startAttempt u).drainCheck

end State

/-- UNIT_SILENCE_EXPIRY (R10). -/
def execUnitSilenceExpiry (u : UnitNo) (s : State) : Host.Outcome State Fault Refusal :=
  .next (s.whenDue (s.reached (s.unit u).silenceDeadline) (State.unitFallsSilent u))

/-- WATERWAY_SILENCE_EXPIRY (R100). -/
def execWaterwaySilenceExpiry (w : WaterwayNo) (s : State) : Host.Outcome State Fault Refusal :=
  .next (s.whenDue (s.reached (s.waterway w).silenceDeadline) (State.waterwayFallsSilent w))

/-- MASTER_SILENCE_EXPIRY (R123). -/
def execMasterSilenceExpiry (s : State) : Host.Outcome State Fault Refusal :=
  .next (s.whenDue s.masterDue State.fallSilent)

/-- PHASE_DEADLINE_EXPIRY (R74, R75). -/
def execPhaseDeadlineExpiry (u : UnitNo) (s : State) : Host.Outcome State Fault Refusal :=
  .next (s.whenDue (s.phaseDue u) (State.phaseExpires u))

/-- WAIT_DEADLINE_EXPIRY (R70). -/
def execWaitDeadlineExpiry (u : UnitNo) (s : State) : Host.Outcome State Fault Refusal :=
  .next (s.whenDue (s.waitDue u) (State.waitExpires u))

/-- SETTLE_DEADLINE_REACHED (R98). -/
def execSettleDeadlineReached (w : WaterwayNo) (s : State) : Host.Outcome State Fault Refusal :=
  .next (s.whenDue (s.settleDue w) (State.endSettling w))

/-- ORDER_EXPIRY (R58). -/
def execOrderExpiry (position : Fin 16) (s : State) : Host.Outcome State Fault Refusal :=
  .next (s.expireOrder position.val)

/-- ROW_DEADLINE_REACHED (R132). -/
def execRowDeadlineReached (s : State) : Host.Outcome State Fault Refusal :=
  .next (s.whenDue s.rowDue State.endRow)

/-- DUTY_SECOND (R174). -/
def execDutySecond (u : UnitNo) (n : CounterNo) (s : State) : Host.Outcome State Fault Refusal :=
  .next (s.whenDue (s.secondReady u n) (State.countSecond u n))

end Sys2Proof.Machine
end

