-- ==== Sys2Proof/Machine/Dispatch.lean ====
section
/-!
DEFINITION. The dispatch: one arm per command, each one call of its meaning.
-/

namespace Sys2Proof.Machine

def exec (i : Instr) (s : State) : Host.Outcome State Fault Refusal :=
  match i with
  | .powerOnReset lines plantLinkOk unitLinkOk => Sys2Proof.Machine.execPowerOnReset lines plantLinkOk unitLinkOk s
  | .softReset lines => Sys2Proof.Machine.execSoftReset lines s
  | .linkUp p => Sys2Proof.Machine.execLinkUp p s
  | .linkDown p => Sys2Proof.Machine.execLinkDown p s
  | .frameDiscarded p bytes => Sys2Proof.Machine.execFrameDiscarded p bytes s
  | .droppedForeign p t => Sys2Proof.Machine.execDroppedForeign p t s
  | .dispatchOrder src ident tag payload => Sys2Proof.Machine.execDispatchOrder src ident tag payload s
  | .unitReport dst src ident tag payload => Sys2Proof.Machine.execUnitReport dst src ident tag payload s
  | .waterwayReport dst src ident tag payload => Sys2Proof.Machine.execWaterwayReport dst src ident tag payload s
  | .supervisoryTelegram p t => Sys2Proof.Machine.execSupervisoryTelegram p t s
  | .transmitStart p => Sys2Proof.Machine.execTransmitStart p s
  | .transmissionEnd p => Sys2Proof.Machine.execTransmissionEnd p s
  | .tripLineAsserted u => Sys2Proof.Machine.execTripLineAsserted u s
  | .tripLineCleared u => Sys2Proof.Machine.execTripLineCleared u s
  | .outInputSet u => Sys2Proof.Machine.execOutInputSet u s
  | .outInputClear u => Sys2Proof.Machine.execOutInputClear u s
  | .assertionEvent line => Sys2Proof.Machine.execAssertionEvent line s
  | .reserveRelease line => Sys2Proof.Machine.execReserveRelease line s
  | .unitSilenceExpiry u => Sys2Proof.Machine.execUnitSilenceExpiry u s
  | .waterwaySilenceExpiry w => Sys2Proof.Machine.execWaterwaySilenceExpiry w s
  | .masterSilenceExpiry => Sys2Proof.Machine.execMasterSilenceExpiry s
  | .phaseDeadlineExpiry u => Sys2Proof.Machine.execPhaseDeadlineExpiry u s
  | .waitDeadlineExpiry u => Sys2Proof.Machine.execWaitDeadlineExpiry u s
  | .settleDeadlineReached w => Sys2Proof.Machine.execSettleDeadlineReached w s
  | .orderExpiry position => Sys2Proof.Machine.execOrderExpiry position s
  | .rowDeadlineReached => Sys2Proof.Machine.execRowDeadlineReached s
  | .dutySecond u n => Sys2Proof.Machine.execDutySecond u n s
  | .identify h data => Sys2Proof.Machine.execIdentify h data s
  | .status h data => Sys2Proof.Machine.execStatus h data s
  | .readTable h data => Sys2Proof.Machine.execReadTable h data s
  | .writeTable h data => Sys2Proof.Machine.execWriteTable h data s
  | .commit h data => Sys2Proof.Machine.execCommit h data s
  | .uncommit h data => Sys2Proof.Machine.execUncommit h data s
  | .setOut h data => Sys2Proof.Machine.execSetOut h data s
  | .forceMode h data => Sys2Proof.Machine.execForceMode h data s
  | .purgeOrder h data => Sys2Proof.Machine.execPurgeOrder h data s
  | .programStart h data => Sys2Proof.Machine.execProgramStart h data s
  | .programRenew h data => Sys2Proof.Machine.execProgramRenew h data s
  | .programStop h data => Sys2Proof.Machine.execProgramStop h data s
  | .counterWrite h data => Sys2Proof.Machine.execCounterWrite h data s
  | .globalFreezeSet h => Sys2Proof.Machine.execGlobalFreezeSet h s
  | .globalFreezeClear h => Sys2Proof.Machine.execGlobalFreezeClear h s
  | .unitFreezeSet h => Sys2Proof.Machine.execUnitFreezeSet h s
  | .unitFreezeClear h => Sys2Proof.Machine.execUnitFreezeClear h s
  | .clearOverflowLatches h => Sys2Proof.Machine.execClearOverflowLatches h s
  | .readClear h data => Sys2Proof.Machine.execReadClear h data s
  | .reset h data => Sys2Proof.Machine.execReset h data s
  | .noSuchRequest h code data => Sys2Proof.Machine.execNoSuchRequest h code data s
  | .shortManagementRequest src ident tag payload => Sys2Proof.Machine.execShortManagementRequest src ident tag payload s
  | .requestWhileResetPending src ident tag payload => Sys2Proof.Machine.execRequestWhileResetPending src ident tag payload s
  | .counterControlBadValue h data => Sys2Proof.Machine.execCounterControlBadValue h data s

end Sys2Proof.Machine
end

