-- ==== Sys2Proof/Machine/Clock.lean ====
section
/-!
DEFINITION. What the block does on its own while no command waits: a command of its own that is due (a deadline, or a transmission that ends or can begin), else one millisecond passes (log 1, log 3).
-/

namespace Sys2Proof.Machine
namespace State

/-- A command when it is due. -/
def offered (due : Bool) (i : Instr) : List Instr := if due then [i] else []

/-- Port p can take a telegram for transmission, and one waits (R153). -/
def transmitDue (s : State) (p : PortName) : Bool :=
  s.mayTransmit p && !((s.port p).originated.isEmpty && (s.port p).forwarded.isEmpty)

/-- The transmission on port p has reached its end (log 16). -/
def transmissionDue (s : State) (p : PortName) : Bool :=
  s.reached ((s.port p).transmitting.map fun x => x.ends)

/-- The commands of the block's own that are due, in the order in which an idle step takes them (log 3). -/
def dueCommands (s : State) : List Instr :=
  offered (s.transmissionDue .plant) (.transmissionEnd .plant) ++
    offered (s.transmissionDue .unit) (.transmissionEnd .unit) ++
    offered (s.transmitDue .plant) (.transmitStart .plant) ++
    offered (s.transmitDue .unit) (.transmitStart .unit) ++
    offered (s.reached s.plantPort.linkFilter) (.linkUp .plant) ++
    offered (s.reached s.unitPort.linkFilter) (.linkUp .unit) ++
    (unitNumbers.flatMap fun u => offered (s.reached (s.unit u).outDebounce) (.outInputSet u)) ++
    offered (s.reached s.reserveA.debounce) (.assertionEvent .a) ++
    offered (s.reached s.reserveB.debounce) (.assertionEvent .b) ++
    (unitNumbers.flatMap fun u => offered (s.reached (s.unit u).silenceDeadline) (.unitSilenceExpiry u)) ++
    (waterwayNumbers.flatMap fun w => offered (s.reached (s.waterway w).silenceDeadline) (.waterwaySilenceExpiry w)) ++
    offered s.masterDue .masterSilenceExpiry ++
    (unitNumbers.flatMap fun u => offered (s.phaseDue u) (.phaseDeadlineExpiry u)) ++
    (unitNumbers.flatMap fun u => offered (s.waitDue u) (.waitDeadlineExpiry u)) ++
    (waterwayNumbers.flatMap fun w => offered (s.settleDue w) (.settleDeadlineReached w)) ++
    ((List.finRange 16).flatMap fun k =>
      offered (match s.orders[k.val]? with
        | some o => s.reached o.expiry
        | none => false) (.orderExpiry k)) ++
    offered s.rowDue .rowDeadlineReached

/-- One millisecond passes: the clock goes on, and the Duty Monitor measures it and counts the seconds that it
completes (R174; log 1, log 12). -/
def tick (s : State) : State := { s with now := s.now + 1 }.passTime

/-- A step on an empty queue: the first command of the block's own that is due acts, else a millisecond passes. -/
def idle (s : State) : Host.Outcome State Fault Refusal :=
  match s.dueCommands with
  | c :: _ => exec c s
  | [] => .next s.tick

end State
end Sys2Proof.Machine
end

