-- ==== Sys2Proof/Machine/Step.lean ====
section
/-!
DEFINITION. The step: the command at the front of the queue is taken with the queue's rest; on an empty queue the block idles (log 1, log 3).
-/

namespace Sys2Proof.Machine

/-- One step of the block. -/
def step (s : State) : Host.Outcome State Fault Refusal :=
  match s.pending with
  | c :: rest => exec c { s with pending := rest }
  | [] => s.idle

/-- The state with the command that a table word spells put at the front of its queue; unchanged where the word spells none. -/
def State.withFetchWord (s : State) (nbits w : Nat) : State :=
  match decodeTableWord nbits w with
  | some c => { s with pending := c :: s.pending }
  | none => s

end Sys2Proof.Machine
end

