-- ==== Sys2Proof/WellFormed.lean ====
section
/-!
DEFINITION. Which terms of `Instr` are commands of their row: the telegram they carry is a good telegram, and the one the row names.
-/

namespace Sys2Proof

/-- The telegram a command carries, with the port it arrives on; none for a command that carries no good telegram. -/
def Instr.telegram? : Instr → Option (PortName × Telegram)
  | .powerOnReset _ _ _ => none
  | .softReset _ => none
  | .linkUp _ => none
  | .linkDown _ => none
  | .frameDiscarded _ _ => none
  | .droppedForeign p t => some (p, t)
  | .dispatchOrder src ident tag payload => some (.plant, Machine.orderTelegram src ident tag payload)
  | .unitReport dst src ident tag payload => some (.unit, Machine.unitReportTelegram dst src ident tag payload)
  | .waterwayReport dst src ident tag payload => some (.unit, Machine.waterwayReportTelegram dst src ident tag payload)
  | .supervisoryTelegram p t => some (p, t)
  | .transmitStart _ => none
  | .transmissionEnd _ => none
  | .tripLineAsserted _ => none
  | .tripLineCleared _ => none
  | .outInputSet _ => none
  | .outInputClear _ => none
  | .assertionEvent _ => none
  | .reserveRelease _ => none
  | .unitSilenceExpiry _ => none
  | .waterwaySilenceExpiry _ => none
  | .masterSilenceExpiry => none
  | .phaseDeadlineExpiry _ => none
  | .waitDeadlineExpiry _ => none
  | .settleDeadlineReached _ => none
  | .orderExpiry _ => none
  | .rowDeadlineReached => none
  | .dutySecond _ _ => none
  | .identify h data => some (.plant, Machine.requestTelegram h 1 data)
  | .status h data => some (.plant, Machine.requestTelegram h 2 data)
  | .readTable h data => some (.plant, Machine.requestTelegram h 3 data)
  | .writeTable h data => some (.plant, Machine.requestTelegram h 4 data)
  | .commit h data => some (.plant, Machine.requestTelegram h 5 data)
  | .uncommit h data => some (.plant, Machine.requestTelegram h 6 data)
  | .setOut h data => some (.plant, Machine.requestTelegram h 7 data)
  | .forceMode h data => some (.plant, Machine.requestTelegram h 8 data)
  | .purgeOrder h data => some (.plant, Machine.requestTelegram h 9 data)
  | .programStart h data => some (.plant, Machine.requestTelegram h 10 data)
  | .programRenew h data => some (.plant, Machine.requestTelegram h 11 data)
  | .programStop h data => some (.plant, Machine.requestTelegram h 12 data)
  | .counterWrite h data => some (.plant, Machine.requestTelegram h 13 data)
  | .globalFreezeSet h => some (.plant, Machine.requestTelegram h 14 [1])
  | .globalFreezeClear h => some (.plant, Machine.requestTelegram h 14 [2])
  | .unitFreezeSet h => some (.plant, Machine.requestTelegram h 14 [3])
  | .unitFreezeClear h => some (.plant, Machine.requestTelegram h 14 [4])
  | .clearOverflowLatches h => some (.plant, Machine.requestTelegram h 14 [5])
  | .readClear h data => some (.plant, Machine.requestTelegram h 15 data)
  | .reset h data => some (.plant, Machine.requestTelegram h 16 data)
  | .noSuchRequest h code data => some (.plant, Machine.requestTelegram h code data)
  | .shortManagementRequest src ident tag payload => some (.plant, Machine.rawRequestTelegram src ident tag payload)
  | .requestWhileResetPending src ident tag payload => some (.plant, Machine.rawRequestTelegram src ident tag payload)
  | .counterControlBadValue h data => some (.plant, Machine.requestTelegram h 14 data)

/-- A payload has 0 to 64 bytes (section 9.1). -/
def payloadFits (payload : List Byte) : Bool := payload.length ≤ 64

/-- The codes of the requests (R161). -/
def knownRequest (code : Byte) : Bool := 1 ≤ code.toNat && code.toNat ≤ 16

/-- The DATA of a COUNTER_CONTROL request with an action the part knows (R161). -/
def knownAction : List Byte → Bool
  | [a] => 1 ≤ a.toNat && a.toNat ≤ 5
  | _ => false

/-- What the row asks of its operands beyond their types and the payload's length. -/
def Instr.namesItsRow : Instr → Bool
  | .frameDiscarded _ bytes =>
    match Machine.checkFrame bytes with
    | .good _ => false
    | _ => true
  | .droppedForeign p t => Machine.routeOf p t = .foreign
  | .supervisoryTelegram p t => Machine.routeOf p t = .supervisory
  | .noSuchRequest _ code _ => !knownRequest code
  | .shortManagementRequest _ _ _ payload => payload.length < 4
  | .counterControlBadValue _ data => !knownAction data
  | .powerOnReset _ _ _ => true
  | .softReset _ => true
  | .linkUp _ => true
  | .linkDown _ => true
  | .dispatchOrder _ _ _ _ => true
  | .unitReport _ _ _ _ _ => true
  | .waterwayReport _ _ _ _ _ => true
  | .transmitStart _ => true
  | .transmissionEnd _ => true
  | .tripLineAsserted _ => true
  | .tripLineCleared _ => true
  | .outInputSet _ => true
  | .outInputClear _ => true
  | .assertionEvent _ => true
  | .reserveRelease _ => true
  | .unitSilenceExpiry _ => true
  | .waterwaySilenceExpiry _ => true
  | .masterSilenceExpiry => true
  | .phaseDeadlineExpiry _ => true
  | .waitDeadlineExpiry _ => true
  | .settleDeadlineReached _ => true
  | .orderExpiry _ => true
  | .rowDeadlineReached => true
  | .dutySecond _ _ => true
  | .identify _ _ => true
  | .status _ _ => true
  | .readTable _ _ => true
  | .writeTable _ _ => true
  | .commit _ _ => true
  | .uncommit _ _ => true
  | .setOut _ _ => true
  | .forceMode _ _ => true
  | .purgeOrder _ _ => true
  | .programStart _ _ => true
  | .programRenew _ _ => true
  | .programStop _ _ => true
  | .counterWrite _ _ => true
  | .globalFreezeSet _ => true
  | .globalFreezeClear _ => true
  | .unitFreezeSet _ => true
  | .unitFreezeClear _ => true
  | .clearOverflowLatches _ => true
  | .readClear _ _ => true
  | .reset _ _ => true
  | .requestWhileResetPending _ _ _ _ => true

/-- A well-formed command: its telegram has at most 64 payload bytes and is one its row names. -/
def Instr.wf (i : Instr) : Bool :=
  (match i.telegram? with
    | some (_, t) => payloadFits t.payload
    | none => true) && i.namesItsRow

end Sys2Proof
end

