-- ==== Sys2Proof/Safety.lean ====
section
/-!
DEFINITION. What the statements speak of: the invariants of the block (R41, R117, R144, R152, R155), what an event leaves as it was, and the parts that the effects of telegram commands share.
-/

namespace Sys2Proof.Machine

/-! ## Invariants -/

/-- A port's queues hold at most 16 and 32 telegrams (R152), and a DOWN port holds and sends none (R155). -/
abbrev PortState.Bounded (q : PortState) : Prop :=
  q.originated.length ≤ 16 ∧ q.forwarded.length ≤ 32 ∧
    (q.link = false → q.originated = [] ∧ q.forwarded = [] ∧ q.transmitting = none)

/-- The unit an order names, if it is unit-targeted. -/
def Order.unit? (o : Order) : Option UnitNo :=
  match o.target with
  | .unit u => some u
  | .pool _ => none

namespace State

/-- Both ports are bounded (R152, R155). -/
abbrev PortsBounded (s : State) : Prop := s.plantPort.Bounded ∧ s.unitPort.Bounded

/-- The order queue holds at most 16 orders and never two unit-targeted orders for the same unit (R41). -/
abbrev OrderQueueSound (s : State) : Prop := s.orders.length ≤ 16 ∧ (s.orders.filterMap Order.unit?).Nodup

/-- A unit's hold queue holds at most 4 telegrams and is empty whenever the unit has no transition in flight (R144). -/
abbrev HoldQueuesSound (s : State) : Prop :=
  ∀ u : UnitNo, (s.unit u).holdQueue.length ≤ 4 ∧ ((s.unit u).transition = none → (s.unit u).holdQueue = [])

/-- While the dispatcher is UNPLANNED nothing is queued, in flight or pending (R117); throughout a drain nothing is queued,
and something is in flight or pending (R125, R126). -/
abbrev DispatcherStateSound (s : State) : Prop :=
  (s.dispatcher = .unplanned →
    s.orders = [] ∧ ∀ u : UnitNo, (s.unit u).transition = none ∧ (s.unit u).reserveClaim = none) ∧
    (s.dispatcher = .draining →
      s.orders = [] ∧ ∃ u : UnitNo, (s.unit u).transition ≠ none ∨ (s.unit u).reserveClaim ≠ none)

/-! ## What an event leaves -/

/-- The tables, the clock, the queue, the link states, the telegrams in transmission, RESET_PENDING, GLOBAL_FREEZE and the control of the duty counters are
the same in both states. -/
abbrev KeepsTablesAndLinks (s t : State) : Prop :=
  t.plan = s.plan ∧ t.matchTable = s.matchTable ∧ t.guardTable = s.guardTable ∧ t.schedule = s.schedule ∧
    t.now = s.now ∧ t.pending = s.pending ∧ t.freeCount = s.freeCount ∧ t.resetPending = s.resetPending ∧
    t.globalFreeze = s.globalFreeze ∧
    (∀ p : PortName,
      (t.port p).link = (s.port p).link ∧ (t.port p).linkOk = (s.port p).linkOk ∧
        (t.port p).linkFilter = (s.port p).linkFilter ∧ (t.port p).transmitting = (s.port p).transmitting) ∧
    ∀ u : UnitNo,
      (t.dutyOf u).event = (s.dutyOf u).event ∧ (t.dutyOf u).enable = (s.dutyOf u).enable ∧
        (t.dutyOf u).notify = (s.dutyOf u).notify ∧ (t.dutyOf u).freezeOnOverflow = (s.dutyOf u).freezeOnOverflow ∧
        (t.dutyOf u).accumulator = (s.dutyOf u).accumulator

/-- What the Unit Monitor keeps of unit u (R1) is the same in both states. -/
abbrev KeepsUnit (u : UnitNo) (s t : State) : Prop :=
  (t.unit u).mode = (s.unit u).mode ∧ (t.unit u).configuredOut = (s.unit u).configuredOut ∧
    (t.unit u).outInput = (s.unit u).outInput ∧ (t.unit u).tripInput = (s.unit u).tripInput ∧
    (t.unit u).silent = (s.unit u).silent ∧ (t.unit u).silenceDeadline = (s.unit u).silenceDeadline ∧
    (t.unit u).lastReport = (s.unit u).lastReport ∧ (t.unit u).tripSeen = (s.unit u).tripSeen ∧
    (t.unit u).outDebounce = (s.unit u).outDebounce

/-- The alarms, silence timers and levels of the waterways are the same in both states. -/
abbrev KeepsAlarms (s t : State) : Prop :=
  ∀ w : WaterwayNo,
    (t.waterway w).alarm = (s.waterway w).alarm ∧ (t.waterway w).alarmSeen = (s.waterway w).alarmSeen ∧
      (t.waterway w).silenceDeadline = (s.waterway w).silenceDeadline ∧
      (t.waterway w).lastLevel = (s.waterway w).lastLevel

/-! ## A good telegram -/

/-- A good telegram with source `src` has come in on port p: it is counted (R151), and one from the plant master on the
plant port restarts the master silence timer while the dispatcher is DIRECTED (R122). -/
def heard (p : PortName) (src : Byte) (s : State) : State :=
  let s := s.updCounters p fun c => { c with receivedGood := saturate c.receivedGood 1 }
  if p = .plant ∧ src = 0x02 ∧ s.dispatcher = .directed then
    { s with masterDeadline :=
      if s.plan.station.masterSilence = 0 then none else some (s.now + 100 * s.plan.station.masterSilence.toNat) }
  else s

/-- Port p receives the frames that end on it: its link state is UP (R150), and, on the unit port, the part's own
transmission does not drive the segment (R149; log 27). -/
abbrev Receives (p : PortName) (s : State) : Prop :=
  (s.port p).link = true ∧ (p = .unit → s.unitPort.transmitting = none)

/-- Management requests are received and taken: the plant port is UP and RESET_PENDING is clear (R150, R169). -/
abbrev TakesRequests (s : State) : Prop := s.plantPort.link = true ∧ s.resetPending = false

/-- A report from unit u in service is taken, whatever follows from it: the silence timer restarts, SILENT ends with its
alert, and LAST_REPORT is replaced (R6 steps 1 to 3). -/
def reportTaken (u : UnitNo) (rep : Report) (s : State) : State :=
  let timed := s.updUnit u fun r =>
    { r with silenceDeadline := some (s.now + 100 * s.plan.unitEntries[u.val].unitSilence.toNat) }
  let awake :=
    if (s.unit u).silent then (timed.updUnit u fun r => { r with silent := false }).sendAlert .unitSilent (unitByte u) 0
    else timed
  awake.updUnit u fun r => { r with lastReport := some rep }

/-- What waits for unit u fails with it: each queued order for u, and then its pending reserve claim, but for the one that
`spared` names, leaves and ends FAILED with reason r (R13 steps 3 and 4, R17 steps 3 and 4). -/
def waitingFails (u : UnitNo) (spared : Option CutName) (r : Reason) (s : State) : State :=
  let fails : Order → Bool := fun o => decide (o.target = .unit u ∧ spared ≠ some { origin := o.origin, tag := o.tag })
  let failed := (s.orders.filter fails).foldl
    (fun t o => t.sendStatus o.tag .failed r (unitByte u) (modeCode o.mode) o.origin)
    { s with orders := s.orders.filter fun o => !fails o }
  match (s.unit u).reserveClaim with
  | none => failed
  | some c =>
    let number := natHalf (lineNumber c.line)
    if spared = some { origin := .reserve, tag := number } then failed
    else (failed.updUnit u fun x => { x with reserveClaim := none }).sendStatus number .failed r (unitByte u)
      (modeCode c.target) .reserve

/-- A trip of unit u that is neither OUT nor TRIPPED, in the order of R13: what CUT of its transition names stays. -/
def trippedBy (u : UnitNo) (detail : Half) (s : State) : State :=
  let spared := (s.unit u).transition.bind fun x => x.cut
  (((((s.updUnit u fun r => { r with tripSeen := true, mode := .tripped }).endTransition u .failed .unitTripped
    true).waitingFails u spared .unitTripped).sendAlert .trip (unitByte u) detail).dutyEvent .trips u)

/-- The MANAGEMENT ANSWER to a request with header h is handed to the plant port (R159, R152). -/
def replied (h : RequestHead) (code : Byte) (r : Result) (data : List Byte) (s : State) : State :=
  s.originate .plant (answerTelegram h.tag code r h.index data)

end State

/-- Form of a DISPATCH ORDER's payload (section 9.7). -/
def orderPayload (targetType target mode : Byte) (setpoint validity : Half) : List Byte :=
  [targetType, target, mode] ++ halfBytes setpoint ++ halfBytes validity

/-- A telegram that R135 drops as foreign when it arrives on port p. -/
abbrev DroppedAsForeign (p : PortName) (t : Telegram) : Prop :=
  (0x10 ≤ t.kind.toNat ∧ t.dst = 0x01) ∨
  t.kind ∈ [0x00#8, 0x02#8, 0x04#8, 0x05#8, 0x07#8, 0x09#8] ∨
  (0x0A ≤ t.kind.toNat ∧ t.kind.toNat ≤ 0x0F) ∨
  (t.kind ∈ [0x01#8, 0x03#8] ∧ (p = .unit ∨ t.dst ≠ 0x01)) ∨
  (t.kind ∈ [0x06#8, 0x08#8] ∧ p = .plant)

end Sys2Proof.Machine
end

