-- ==== Sys2Proof/Certificates/Slice0/Obligations.lean ====
section
/-!
DEFINITION. The statements: what each command of the block does, by the rules of spec/, and the invariants that every step keeps.
-/

open Sys2Proof Sys2Proof.Machine

/-! ## Steps -/

/-- A step takes the command at the front of the queue and is its effect on the state with the queue's rest. -/
def Obligations.StepRunsTheFrontCommand : Prop :=
  ∀ (c : Instr) (rest : List Instr) (s : State), s.pending = c :: rest → step s = exec c { s with pending := rest }

/-- A step on an empty queue is the first due command, or lets one millisecond pass (log 1, log 3): the clock goes on, and
every counter that measures the time (R174) has its accumulator one millisecond further. The accumulator that this
brings to one second gives the second up, and its counter is increased (log 12); once every value stands, the
counters that wrapped take the steps of R176 unit by unit, in counter order (log 26). Nothing else changes. When a
second event's condition holds, and when a counter can count (R172, R174). -/
def Obligations.IdleStepRunsWhatIsDueOrTicks : Prop :=
  (∀ s : State, s.pending = [] →
    let measures : UnitNo → CounterNo → Prop := fun u n =>
      s.secondCondition u (s.eventOf u n) = true ∧ s.canCount u n = true
    let full : UnitNo → CounterNo → Prop := fun u n => measures u n ∧ (s.dutyOf u).accumulator[n.val].val = 999
    (∀ c rest, s.dueCommands = c :: rest → step s = exec c s) ∧
    (s.dueCommands = [] →
      ∃ (t : State) (wrapped : UnitNo → List CounterNo),
        step s = .next (unitNumbers.foldl (fun x u => (wrapped u).foldl (State.overflow u) x) t) ∧
        t = { s with now := s.now + 1, duty := t.duty } ∧
        ∀ u : UnitNo,
          (wrapped u).Pairwise (fun n k => n < k) ∧
          (∀ n, n ∈ wrapped u ↔ full u n ∧ s.counterValue u n = 0xFFFFFFFF#32) ∧
          t.dutyOf u =
            { s.dutyOf u with value := (t.dutyOf u).value, accumulator := (t.dutyOf u).accumulator } ∧
          ∀ n : CounterNo,
            (full u n → (t.dutyOf u).accumulator[n.val].val = 0 ∧ t.counterValue u n = s.counterValue u n + 1) ∧
            (¬ full u n → t.counterValue u n = s.counterValue u n ∧
              (measures u n →
                (t.dutyOf u).accumulator[n.val].val = (s.dutyOf u).accumulator[n.val].val + 1) ∧
              (¬ measures u n → (t.dutyOf u).accumulator[n.val] = (s.dutyOf u).accumulator[n.val])))) ∧
  (∀ (s : State) (u : UnitNo),
    (s.secondCondition u .secondsGen = true ↔
      u.val < s.plan.station.unitCount.toNat ∧ (s.unit u).transition = none ∧ (s.unit u).mode = .settled .gen) ∧
    (s.secondCondition u .secondsPmp = true ↔
      u.val < s.plan.station.unitCount.toNat ∧ (s.unit u).transition = none ∧ (s.unit u).mode = .settled .pmp) ∧
    (s.secondCondition u .secondsCondense = true ↔
      u.val < s.plan.station.unitCount.toNat ∧ (s.unit u).transition = none ∧
        ((s.unit u).mode = .settled .scg ∨ (s.unit u).mode = .settled .scp)) ∧
    (s.secondCondition u .secondsMoving = true ↔
      u.val < s.plan.station.unitCount.toNat ∧ (s.unit u).transition ≠ none) ∧
    (∀ e, eventCode e < 11 ∨ 14 < eventCode e → s.secondCondition u e = false) ∧
    ∀ n : CounterNo,
      (s.canCount u n = true ↔
        (s.dutyOf u).enable.getLsbD n.val = true ∧ (s.dutyOf u).freeze = false ∧ s.globalFreeze = false))

/-! ## Resets -/

/-- R22: unit records after power-on reset; a TRIP line found asserted takes its unit to TRIPPED. -/
def Obligations.PowerOnResetUnitRecords : Prop :=
  ∀ (lines : Lines) (plantOk unitOk : Bool) (s : State), ∃ t : State, exec (.powerOnReset lines plantOk unitOk) s = .next t ∧
    ∀ u : UnitNo, t.unit u =
      { mode := if lines.trip.getLsbD u.val then .tripped else .unknown
        configuredOut := false, outInput := false, tripInput := lines.trip.getLsbD u.val, silent := false
        silenceDeadline := some (s.now + 5000)
        lastReport := none, lastSetpoint := 0, transition := none, reserveClaim := none, holdQueue := []
        tripSeen := lines.trip.getLsbD u.val
        outDebounce := if lines.out.getLsbD u.val then some (s.now + 100) else none }

/-- R63, R104, R116, R133, R171, R179: the other blocks after power-on reset. R154, R158: the ports after power-on reset
are DOWN and empty. Every ALERT TRIP of the sampling is dropped at the DOWN plant port and counted (R152). -/
def Obligations.PowerOnResetBlocksAndPorts : Prop :=
  (∀ (lines : Lines) (plantOk unitOk : Bool) (s : State), ∃ t : State, exec (.powerOnReset lines plantOk unitOk) s = .next t ∧
    t.orders = [] ∧ t.ageCount = 0 ∧
    (∀ c : ConverterNo, t.converter c = none) ∧ t.converterWait = [] ∧
    t.waterway 0 =
      { window := .free, alarm := false, alarmSeen := false, silenceDeadline := some (s.now + 5000), lastLevel := none,
        wait := [] } ∧
    t.waterway 1 =
      { window := .free, alarm := false, alarmSeen := false, silenceDeadline := none, lastLevel := none, wait := [] } ∧
    t.reserveA = { level := false, seen := false, debounce := if lines.reserveA then some (s.now + 50) else none } ∧
    t.reserveB = { level := false, seen := false, debounce := if lines.reserveB then some (s.now + 50) else none } ∧
    t.dispatcher = .unplanned ∧ t.masterDeadline = none ∧ t.masterSilenceSeen = false ∧
    t.program =
      { running := false, run := { start := 0, length := 1, loop := false }, currentRow := 0, rowDeadline := none,
        captured := none, pendingRun := none } ∧
    t.resetPending = false ∧ t.globalFreeze = false ∧
    ∀ u : UnitNo,
      t.dutyOf u =
        { value := #v[0, 0, 0, 0], event := #v[.none, .none, .none, .none], enable := 0, notify := 0,
          freezeOnOverflow := false, freeze := false, latches := 0, summary := false, accumulator := #v[0, 0, 0, 0] }) ∧
  (∀ (lines : Lines) (plantOk unitOk : Bool) (s : State), ∃ t : State, exec (.powerOnReset lines plantOk unitOk) s = .next t ∧
    t.unitPort =
      { link := false, linkOk := unitOk, linkFilter := if unitOk then some (s.now + 100) else none, originated := [],
        forwarded := [], transmitting := none, counters := ⟨0, 0, 0, 0, 0, 0, 0, 0⟩ } ∧
    t.plantPort =
      { link := false, linkOk := plantOk, linkFilter := if plantOk then some (s.now + 100) else none, originated := [],
        forwarded := [], transmitting := none
        counters := ⟨0, 0, 0, 0, 0, 0, 0, BitVec.ofNat 32 (unitNumbers.countP fun u => lines.trip.getLsbD u.val)⟩ })

/-- R4, R24, R27, R49, R108, R118, R127, R139, R141: the tables after power-on reset. -/
def Obligations.PowerOnResetTables : Prop :=
  ∀ (lines : Lines) (plantOk unitOk : Bool) (s : State), ∃ t : State, exec (.powerOnReset lines plantOk unitOk) s = .next t ∧
    t.plan.station =
      { unitCount := 8, waterwayCount := 1, converterCount := 0, abortCommand := 0x01, setpointCommand := 0x02,
        masterSilence := 0, waitLimitSchedule := 600, waitLimitDispatch := 600, waitLimitReserve := 600,
        reserveDebounceA := 5, reserveDebounceB := 5 } ∧
    (∀ e ∈ t.plan.unitEntries.toList, e.waterway = 0 ∧ e.unitSilence = 50) ∧
    (∀ e ∈ t.plan.waterwayEntries.toList, e.settleTime = 60 ∧ e.waterwaySilence = 50) ∧
    (∀ e ∈ t.plan.routes.toList, e =
      { enabled := false, fromMode := .st, toMode := .st, units := 0, firstPhase := 0, phaseCount := 1 }) ∧
    (∀ e ∈ t.plan.phases.toList, e =
      { command := 0, landing := .st, statusValue := 0, statusMask := 0, timeLimit := 0, retries := 0, claim := .none,
        keep := .none, sendSetpoint := false }) ∧
    (∀ e ∈ t.plan.recognition.toList, e = { enabled := false, mode := 0, units := 0, value := 0, mask := 0 }) ∧
    (∀ e ∈ t.plan.pools.toList, e.members = 0 ∧ e.selectCounter = 0) ∧
    (∀ e ∈ t.plan.reserve.toList, e.apply = 0 ∧ e.target = none ∧ e.setpoint = 0) ∧
    (∀ e ∈ t.matchTable.toList, e =
      { enabled := false, direction := .both, kind := none, identValue := 0, identMask := 0, len := none,
        dataValue0 := 0, dataValue1 := 0, dataMask0 := 0, dataMask1 := 0, cls := 1 }) ∧
    (∀ g ∈ t.guardTable.toList, ∀ c, g.action c = .forward) ∧
    (∀ r ∈ t.schedule.toList, r.duration = 60 ∧ ∀ e ∈ r.entries.toList, e.mode = none ∧ e.setpoint = 0)

/-- R23: unit records after the soft reset, with the TRIP lines that it finds asserted. SOFT_RESET comes once the answer
to RESET stands in the plant port's queue no longer (log 5, log 19). -/
def Obligations.SoftResetUnitRecords : Prop :=
  ∀ (lines : Lines) (s : State), s.resetPending = true → (∀ x ∈ s.plantPort.originated, isResetAnswer x = false) →
    ∃ t : State, exec (.softReset lines) s = .next t ∧
      ∀ u : UnitNo,
        (u.val < s.plan.station.unitCount.toNat → t.unit u =
          { mode := if (s.unit u).configuredOut then .out else if lines.trip.getLsbD u.val then .tripped else .unknown
            configuredOut := (s.unit u).configuredOut, outInput := false, tripInput := lines.trip.getLsbD u.val
            silent := false
            silenceDeadline := some (s.now + 100 * s.plan.unitEntries[u.val].unitSilence.toNat)
            lastReport := none, lastSetpoint := 0, transition := none, reserveClaim := none, holdQueue := []
            tripSeen := lines.trip.getLsbD u.val
            outDebounce := if lines.out.getLsbD u.val then some (s.now + 100) else none }) ∧
        (s.plan.station.unitCount.toNat ≤ u.val → t.unit u =
          { mode := .unknown, configuredOut := false, outInput := false, tripInput := lines.trip.getLsbD u.val
            silent := false, silenceDeadline := none, lastReport := none, lastSetpoint := 0, transition := none
            reserveClaim := none, holdQueue := [], tripSeen := false, outDebounce := none })

/-- R63, R105, R116, R134, R146, R170: the other blocks after the soft reset, and the tables it keeps. R158: the ports
after the soft reset; the answer to RESET itself has left (log 5). With no TRIP line asserted the plant port's queue and counters stay empty too (a TRIP line
found asserted sends ALERT TRIP at once, R170). R179: the Duty Monitor after the soft reset. With no TRIP line
asserted nothing is counted at the reset. -/
def Obligations.SoftResetBlocksPortsAndCounters : Prop :=
  (∀ (lines : Lines) (s : State), s.resetPending = true → (∀ x ∈ s.plantPort.originated, isResetAnswer x = false) →
    ∃ t : State, exec (.softReset lines) s = .next t ∧
      t.orders = [] ∧ t.ageCount = 0 ∧ (∀ c : ConverterNo, t.converter c = none) ∧ t.converterWait = [] ∧
      (∀ w : WaterwayNo, w.val < s.plan.station.waterwayCount.toNat → t.waterway w =
        { window :=
            if s.plan.waterwayEntries[w.val].settleTime = 0 then .free
            else .settling (s.now + 1000 * s.plan.waterwayEntries[w.val].settleTime.toNat)
          alarm := false, alarmSeen := false
          silenceDeadline := some (s.now + 100 * s.plan.waterwayEntries[w.val].waterwaySilence.toNat)
          lastLevel := none, wait := [] }) ∧
      (∀ w : WaterwayNo, s.plan.station.waterwayCount.toNat ≤ w.val → t.waterway w =
        { window := .free, alarm := false, alarmSeen := false, silenceDeadline := none, lastLevel := none, wait := [] }) ∧
      t.reserveA =
        { level := false, seen := false
          debounce := if lines.reserveA then some (s.now + 10 * s.plan.station.reserveDebounceA.toNat) else none } ∧
      t.reserveB =
        { level := false, seen := false
          debounce := if lines.reserveB then some (s.now + 10 * s.plan.station.reserveDebounceB.toNat) else none } ∧
      t.dispatcher = .unplanned ∧ t.masterDeadline = none ∧ t.masterSilenceSeen = false ∧
      t.program =
        { running := false, run := { start := 0, length := 1, loop := false }, currentRow := 0, rowDeadline := none,
          captured := none, pendingRun := none } ∧
      t.resetPending = false ∧
      t.plan = s.plan ∧ t.matchTable = s.matchTable ∧ t.guardTable = s.guardTable ∧ t.schedule = s.schedule) ∧
  (∀ (lines : Lines) (s : State), s.resetPending = true → (∀ x ∈ s.plantPort.originated, isResetAnswer x = false) →
    ∃ t : State, exec (.softReset lines) s = .next t ∧
      t.unitPort =
        { s.unitPort with
          originated := [], forwarded := []
          transmitting := s.unitPort.transmitting.map fun x => { x with counted := false }
          counters := ⟨0, 0, 0, 0, 0, 0, 0, 0⟩ } ∧
      t.plantPort.link = s.plantPort.link ∧ t.plantPort.linkFilter = s.plantPort.linkFilter ∧
      t.plantPort.forwarded = [] ∧
      t.plantPort.transmitting =
        (match s.plantPort.transmitting with
          | some x => if isResetAnswer x.telegram then none else some { x with counted := false }
          | none => none) ∧
      (lines.trip = 0 → t.plantPort.originated = [] ∧ t.plantPort.counters = ⟨0, 0, 0, 0, 0, 0, 0, 0⟩)) ∧
  (∀ (lines : Lines) (s : State), s.resetPending = true → (∀ x ∈ s.plantPort.originated, isResetAnswer x = false) →
    ∃ t : State, exec (.softReset lines) s = .next t ∧ t.globalFreeze = false ∧
      ∀ u : UnitNo,
        (t.dutyOf u).event = (s.dutyOf u).event ∧ (t.dutyOf u).enable = (s.dutyOf u).enable ∧
        (t.dutyOf u).notify = (s.dutyOf u).notify ∧ (t.dutyOf u).freezeOnOverflow = (s.dutyOf u).freezeOnOverflow ∧
        (t.dutyOf u).accumulator = #v[0, 0, 0, 0] ∧
        (lines.trip.getLsbD u.val = false →
          (t.dutyOf u).value = (s.dutyOf u).value ∧ (t.dutyOf u).freeze = false ∧ (t.dutyOf u).latches = 0 ∧
            (t.dutyOf u).summary = false))

/-- R158, R169: the soft reset is carried out at the plant port's report: at the end of the answer's transmission, when
the answer is cut off or emptied with the port, and at SOFT_RESET, which is the report and the reset with the lines
as it gives them (log 5). While RESET_PENDING is clear, or the answer is still queued, SOFT_RESET has no effect.
The answer is known by its content (log 19). -/
def Obligations.SoftResetWaitsForTheReport : Prop :=
  (∀ t : Telegram, isResetAnswer t = true ↔ t.kind = 0x04 ∧ t.payload.take 2 = [16, 0]) ∧
  (∀ (lines : Lines) (s : State),
    (s.resetPending = false ∨ (∃ x ∈ s.plantPort.originated, isResetAnswer x = true) →
      exec (.softReset lines) s = .next s) ∧
    (s.resetPending = true → (∀ x ∈ s.plantPort.originated, isResetAnswer x = false) →
      ((∀ x, s.plantPort.transmitting = some x → isResetAnswer x.telegram = false) →
        exec (.softReset lines) s = .next (s.softResetEvent lines)) ∧
      (∀ x, s.plantPort.transmitting = some x → isResetAnswer x.telegram = true →
        exec (.softReset lines) s =
          .next (({ s with plantPort := { s.plantPort with transmitting := none } } : State).softResetEvent lines)))) ∧
  (∀ (x : Transmission) (s : State), s.resetPending = true → s.plantPort.transmitting = some x →
    isResetAnswer x.telegram = true →
    exec (.transmissionEnd .plant) s =
      .next (({ s with plantPort := { s.plantPort with transmitting := none } } : State).softResetEvent s.lines)) ∧
  (∀ s : State, s.resetPending = true → s.plantPort.link = true →
    (∃ x, (x ∈ s.plantPort.originated ∨ ∃ y, s.plantPort.transmitting = some y ∧ y.telegram = x) ∧
      isResetAnswer x = true) →
    exec (.linkDown .plant) s =
      .next (({ s with plantPort :=
        { s.plantPort with
          link := false, linkOk := false, linkFilter := none, originated := [], forwarded := []
          transmitting := none } } : State).softResetEvent s.lines))

/-! ## The link ports (chapter 9) -/

/-- R154: LINK_OK asserted for 100 ms makes the port UP, and nothing else changes. R154, R155: an UP port that becomes
DOWN loses and counts what it transmits and queues, and nothing else changes unless the answer to a pending RESET is
among it (then see SoftResetWaitsForTheReport); a port that is DOWN stays so. -/
def Obligations.LinkStateFollowsLinkOk : Prop :=
  (∀ (p : PortName) (s : State), ∃ t : State, exec (.linkUp p) s = .next t ∧
    t.port p = { s.port p with link := true, linkOk := true, linkFilter := none } ∧
    t = s.updPort p fun _ => t.port p) ∧
  (∀ (p : PortName) (s : State),
    ((s.port p).link = true →
      let q := s.port p
      let lost := (q.transmitting.map fun x => x.telegram).toList ++ q.originated ++ q.forwarded
      (p = .unit ∨ s.resetPending = false ∨ (∀ x ∈ lost, isResetAnswer x = false)) →
      exec (.linkDown p) s =
        .next (s.updPort p fun _ =>
          { link := false, linkOk := false, linkFilter := none, originated := [], forwarded := [], transmitting := none
            counters := { q.counters with transmitDrops := saturate q.counters.transmitDrops lost.length } })) ∧
    ((s.port p).link = false → exec (.linkDown p) s =
      .next (s.updPort p fun q => { q with linkOk := false, linkFilter := none })))

/-- R150: the receive checks of a frame that ends on an UP port, in their order, each with its counter; a discarded
frame has no other effect, and a frame on a DOWN port has none. R149: neither has one on the unit port while the
part's own driver is enabled, from the beginning of a transmission to its end (log 27). -/
def Obligations.ReceiveChecksDiscardAndCount : Prop :=
  ∀ (p : PortName) (bytes : List Byte) (s : State),
    ((s.port p).link = false ∨ (p = .unit ∧ s.unitPort.transmitting ≠ none) →
      exec (.frameDiscarded p bytes) s = .next s) ∧
    ((s.port p).link = true → (p = .unit → s.unitPort.transmitting = none) →
      (76 < bytes.length → exec (.frameDiscarded p bytes) s =
        .next (s.updCounters p fun c => { c with malformed := saturate c.malformed 1 })) ∧
      (bytes.length ≤ 76 →
        (bytes.length ≤ 4 ∨ bytes.drop (bytes.length - 4) ≠ wordBytes (crc (bytes.take (bytes.length - 4))) →
          exec (.frameDiscarded p bytes) s =
            .next (s.updCounters p fun c => { c with crcErrors := saturate c.crcErrors 1 })) ∧
        (4 < bytes.length → bytes.drop (bytes.length - 4) = wordBytes (crc (bytes.take (bytes.length - 4))) →
          bytes.length < 12 ∨ 64 < (bytes.getD 7 0).toNat ∨ bytes.length ≠ (bytes.getD 7 0).toNat + 12 →
          exec (.frameDiscarded p bytes) s =
            .next (s.updCounters p fun c => { c with malformed := saturate c.malformed 1 }))))

/-- R148: the CRC of the nine ASCII bytes "123456789". R148, R150: every telegram with at most 64 payload bytes is 12 to
76 bytes long as it is sent, and passes the receive checks as itself. -/
def Obligations.SentTelegramsPassTheReceiveChecks : Prop :=
  (crc [0x31, 0x32, 0x33, 0x34, 0x35, 0x36, 0x37, 0x38, 0x39] = 0xCBF43926#32) ∧
  (∀ t : Telegram, t.payload.length ≤ 64 →
    12 ≤ (telegramBytes t).length ∧ (telegramBytes t).length ≤ 76 ∧ checkFrame (telegramBytes t) = .good t)

/-- R152: where an originated or forwarded telegram is placed, when it is dropped, and the header fields of every
telegram the part originates. R61, R180, R28, R91: statuses and alerts are placed on the plant port, unit commands and
converter assignments on the unit port. R156: a port counter goes up by one for each counted event and keeps
4294967295 once it holds it. Section 9.7: the codes of STATUS, REASON, ORIGIN, ALERT_KIND and RESULT; the modes of
00_scope, the dispatcher states of R117, the events of R173 and the lines of R110. -/
def Obligations.TelegramsArePlacedOrDropped : Prop :=
  ((∀ (p : PortName) (t : Telegram) (s : State),
    ((s.port p).link = true → (s.port p).originated.length < 16 →
      s.originate p t = s.updPort p fun q => { q with originated := q.originated ++ [t] }) ∧
    ((s.port p).link = false ∨ 16 ≤ (s.port p).originated.length →
      s.originate p t = s.updCounters p fun c => { c with transmitDrops := saturate c.transmitDrops 1 }) ∧
    ((s.port p).link = true → (s.port p).forwarded.length < 32 →
      s.forwardTo p t = s.updPort p fun q => { q with forwarded := q.forwarded ++ [t] }) ∧
    ((s.port p).link = false ∨ 32 ≤ (s.port p).forwarded.length →
      s.forwardTo p t = s.updCounters p fun c => { c with transmitDrops := saturate c.transmitDrops 1 })) ∧
  (∀ tag st r unit mode o, telegramBody (statusTelegram tag st r unit mode o) =
    [0x02, 0x01, 0x02, 0, 0, hiByte tag, loByte tag, 7, hiByte tag, loByte tag, statusCode st, reasonCode r, unit, mode,
      originCode o]) ∧
  (∀ k subject detail, telegramBody (alertTelegram k subject detail) =
    [0x02, 0x01, 0x09, 0, 0, 0, 0, 4, alertCode k, subject, hiByte detail, loByte detail]) ∧
  (∀ u command setpoint converter route phase,
    telegramBody (unitCommandTelegram u command setpoint converter route phase) =
      [0x10 + natByte u.val, 0x01, 0x05, 0, 0, 0, 0, 6, command, hiByte setpoint, loByte setpoint, converter, route,
        phase]) ∧
  (∀ c u action, telegramBody (converterAssignTelegram c u action) =
    [0x18 + natByte c.val, 0x01, 0x07, 0, 0, 0, 0, 2, natByte u.val, action]) ∧
  (∀ tag request result index data, telegramBody (answerTelegram tag request result index data) =
    [0x02, 0x01, 0x04, 0, 0, hiByte tag, loByte tag, natByte (4 + data.length), request, resultCode result,
      hiByte index, loByte index] ++ data)) ∧
  (∀ s : State,
    (∀ tag st r unit mode o,
      s.sendStatus tag st r unit mode o = s.originate .plant (statusTelegram tag st r unit mode o)) ∧
    (∀ k subject detail, s.sendAlert k subject detail = s.originate .plant (alertTelegram k subject detail)) ∧
    (∀ u command setpoint converter route phase,
      s.sendUnitCommand u command setpoint converter route phase =
        s.originate .unit (unitCommandTelegram u command setpoint converter route phase)) ∧
    (∀ c u action, s.sendConverterAssign c u action = s.originate .unit (converterAssignTelegram c u action))) ∧
  (∀ w : BitVec 32, (w = 0xFFFFFFFF#32 → saturate w 1 = w) ∧ (w ≠ 0xFFFFFFFF#32 → saturate w 1 = w + 1)) ∧
  (([.accepted, .started, .done, .refused, .superseded, .expired, .failed, .cut, .withdrawn] : List Status).map statusCode =
      [1, 2, 3, 4, 5, 6, 7, 8, 9] ∧
    ([.none, .malformed, .notPlanned, .draining, .noSuchUnit, .noSuchPool, .badMode, .unitUnavailable, .queueFull,
        .outranked, .noRoute, .phaseTimeout, .resourceWait, .unitTripped, .unitOut, .masterSilent, .returnDirected,
        .purged, .uncommit] : List Reason).map reasonCode =
      [0, 1, 2, 3, 4, 5, 6, 7, 8, 9, 10, 11, 12, 13, 14, 15, 16, 17, 18] ∧
    ([.dispatch, .schedule, .reserve] : List Origin).map originCode = [1, 2, 3] ∧
    ([.trip, .phaseOverrun, .unitSilent, .modeDrift, .masterSilent, .reserve, .reserveIgnored, .waterwayAlarm,
        .counterOverflow, .holdOverflow, .drainDone] : List AlertKind).map alertCode =
      [1, 2, 3, 4, 5, 6, 7, 8, 9, 10, 11] ∧
    ([.ok, .noSuchRequest, .noSuchTable, .badIndex, .badValue, .planLocked, .busy, .wrongState, .commitFailed] :
        List Result).map resultCode = [0, 1, 2, 3, 4, 5, 6, 7, 8] ∧
    ([.st, .gen, .pmp, .scg, .scp] : List Mode).map modeCode = [0, 1, 2, 3, 4] ∧
    (∀ m : Mode, unitModeCode (.settled m) = modeCode m) ∧
    ([.tripped, .out, .unknown] : List UnitMode).map unitModeCode = [5, 6, 7] ∧
    ([.unplanned, .directed, .autonomous, .draining] : List DispatcherState).map dispatcherCode = [0, 1, 2, 3] ∧
    ([.none, .entriesGen, .entriesPmp, .entriesCondense, .transitionsDone, .transitionsFailed, .cuts, .phaseOverruns,
        .trips, .converterGrants, .waterwayGrants, .secondsGen, .secondsPmp, .secondsCondense, .secondsMoving,
        .holdDrops] : List DutyEvent).map eventCode = [0, 1, 2, 3, 4, 5, 6, 7, 8, 9, 10, 11, 12, 13, 14, 15] ∧
    ([.a, .b] : List ReserveLine).map lineNumber = [0, 1])

/-- R153: which telegram a free transmitter takes, that a running transmission is not interrupted, and what the end of a
transmission counts. An idle step ends the transmission one millisecond after it began (log 16). The end of the
answer to a pending RESET is the soft reset (R158): see SoftResetWaitsForTheReport. -/
def Obligations.TransmitterServesOriginatedFirst : Prop :=
  ∀ (p : PortName) (s : State),
    ((s.port p).link = true → (s.port p).transmitting = none →
      (∀ t rest, (s.port p).originated = t :: rest → exec (.transmitStart p) s =
        .next (s.updPort p fun q =>
          { q with
            originated := rest
            transmitting := some { telegram := t, queue := .originated, counted := true, ends := s.now + 1 } })) ∧
      (∀ t rest, (s.port p).originated = [] → (s.port p).forwarded = t :: rest → exec (.transmitStart p) s =
        .next (s.updPort p fun q =>
          { q with
            forwarded := rest
            transmitting := some { telegram := t, queue := .forwarded, counted := true, ends := s.now + 1 } })) ∧
      ((s.port p).originated = [] → (s.port p).forwarded = [] → exec (.transmitStart p) s = .next s)) ∧
    ((s.port p).link = false ∨ (s.port p).transmitting ≠ none → exec (.transmitStart p) s = .next s) ∧
    ((s.port p).transmitting = none → exec (.transmissionEnd p) s = .next s) ∧
    (∀ x, (s.port p).transmitting = some x →
      (p = .unit ∨ s.resetPending = false ∨ isResetAnswer x.telegram = false) →
      exec (.transmissionEnd p) s =
        .next (s.updPort p fun q =>
          { q with
            transmitting := none
            counters :=
              if x.counted then
                match x.queue with
                | .originated => { q.counters with originated := saturate q.counters.originated 1 }
                | .forwarded => { q.counters with forwarded := saturate q.counters.forwarded 1 }
              else q.counters })) ∧
    (.transmissionEnd p ∈ s.dueCommands ↔ ∃ x, (s.port p).transmitting = some x ∧ x.ends ≤ s.now)

/-! ## The Telegram Path (chapter 8) -/

/-- R150, R149: no telegram is received on a DOWN port, nor on the unit port while the part's own driver is enabled
(log 27). A command whose telegram is too long for a frame is counted as the
frame would be (log 15). R135, R138: the telegrams dropped as foreign, counted on their arrival port; one from the
plant master on the plant port restarts master silence first. -/
def Obligations.ForeignTelegramsAreDropped : Prop :=
  (∀ (c : Instr) (p : PortName) (t : Telegram) (s : State), c.telegram? = some (p, t) →
    ((s.port p).link = false ∨ (p = .unit ∧ s.unitPort.transmitting ≠ none) → exec c s = .next s) ∧
    (s.Receives p → 64 < t.payload.length → exec c s =
      .next (s.updCounters p fun k => { k with malformed := saturate k.malformed 1 }))) ∧
  (∀ (p : PortName) (t : Telegram) (s : State), s.Receives p → t.payload.length ≤ 64 → DroppedAsForeign p t →
    exec (.droppedForeign p t) s =
      .next ((s.heard p t.src).updCounters p fun c => { c with droppedForeign := saturate c.droppedForeign 1 }))

/-- R140: a supervisory telegram takes the class of the first enabled entry that matches it, and class 0 when none does.
R142: the guard column. -/
def Obligations.ClassAndColumnOfASupervisoryTelegram : Prop :=
  (∀ (p : PortName) (t : Telegram) (s : State),
    let agrees : Nat → Byte → Byte → Prop := fun k value mask =>
      match t.payload[k]? with
      | some b => b &&& mask = value &&& mask
      | none => mask = 0
    let hit : MatchEntry → Prop := fun e =>
      e.enabled = true ∧
      (e.direction = .both ∨ (e.direction = .down ∧ p = .plant) ∨ (e.direction = .up ∧ p = .unit)) ∧
      (e.kind = none ∨ e.kind = some t.kind) ∧ t.ident &&& e.identMask = e.identValue &&& e.identMask ∧
      (∀ n, e.len = some n → n.toNat = t.payload.length) ∧
      agrees 0 e.dataValue0 e.dataMask0 ∧ agrees 1 e.dataValue1 e.dataMask1
    (∀ i : Fin 24, hit s.matchTable[i.val] → (∀ j : Fin 24, j < i → ¬ hit s.matchTable[j.val]) →
      s.classify p t = s.matchTable[i.val].cls) ∧
    ((∀ i : Fin 24, ¬ hit s.matchTable[i.val]) → s.classify p t = 0)) ∧
  ((∀ (s : State) (addr : Byte) (u : UnitNo),
    s.unitAt addr = some u ↔ addr.toNat = 0x10 + u.val ∧ u.val < s.plan.station.unitCount.toNat) ∧
  (∀ t : Telegram, State.concerned .plant t = t.dst ∧ State.concerned .unit t = t.src) ∧
  (∀ r : UnitRecord,
    ((r.mode = .out ∨ r.mode = .tripped ∨ r.mode = .unknown) → r.column = .unavailable) ∧
    (∀ m, r.mode = .settled m → r.transition ≠ none → r.column = .moving) ∧
    (r.transition = none →
      (r.mode = .settled .st → r.column = .st) ∧ (r.mode = .settled .gen → r.column = .gen) ∧
      (r.mode = .settled .pmp → r.column = .pmp) ∧ (r.mode = .settled .scg → r.column = .sc) ∧
      (r.mode = .settled .scp → r.column = .sc))))

/-- R143, R144: what the guard does with a supervisory telegram, given its class and column: forward it unchanged to the
other port, drop and count it, or hold it for its moving unit, with the alert and the duty event of a full hold
queue. R145: held telegrams are judged again in arrival order by their kept class and the unit's column: those not
dropped are forwarded, those dropped are counted, and the queue is empty. -/
def Obligations.GuardForwardsDropsOrHolds : Prop :=
  (∀ (p : PortName) (t : Telegram) (s : State), s.Receives p → t.payload.length ≤ 64 → 0x10 ≤ t.kind.toNat →
    t.dst ≠ 0x01 →
    let s0 := s.heard p t.src
    let k := s.classify p t
    let forward := s0.forwardTo (match p with | .plant => .unit | .unit => .plant) t
    let drop := s0.updCounters p fun c => { c with droppedGuard := saturate c.droppedGuard 1 }
    (s.unitAt (State.concerned p t) = none →
      (s.guardTable[k.val].nonUnit = .drop → exec (.supervisoryTelegram p t) s = .next drop) ∧
      (s.guardTable[k.val].nonUnit ≠ .drop → exec (.supervisoryTelegram p t) s = .next forward)) ∧
    (∀ u, s.unitAt (State.concerned p t) = some u →
      let a := s.guardTable[k.val].action (s.unit u).column
      (a = .drop → exec (.supervisoryTelegram p t) s = .next drop) ∧
      (a = .forward ∨ (a = .hold ∧ (p = .unit ∨ (s.unit u).column ≠ .moving)) →
        exec (.supervisoryTelegram p t) s = .next forward) ∧
      (a = .hold → p = .plant → (s.unit u).column = .moving →
        ((s.unit u).holdQueue.length < 4 → exec (.supervisoryTelegram p t) s =
          .next (s0.updUnit u fun r =>
            { r with holdQueue := r.holdQueue ++ [{ telegram := t, cls := k, port := .plant }] })) ∧
        (4 ≤ (s.unit u).holdQueue.length → exec (.supervisoryTelegram p t) s =
          .next ((drop.dutyEvent .holdDrops u).sendAlert .holdOverflow (unitByte u)
            (natHalf (k.val * 256 + t.kind.toNat))))))) ∧
  (∀ (u : UnitNo) (s : State), s.unitPort.link = true →
    s.unitPort.forwarded.length + (s.unit u).holdQueue.length ≤ 32 →
    (∀ h ∈ (s.unit u).holdQueue, h.port = .plant) →
    let column := (s.unit u).column
    let dropped := (s.unit u).holdQueue.filter fun h => s.guardAction h.cls column = .drop
    let passed := (s.unit u).holdQueue.filter fun h => s.guardAction h.cls column ≠ .drop
    s.rejudge u =
      ((s.updUnit u fun r => { r with holdQueue := [] }).updPort .unit fun q =>
        { q with forwarded := q.forwarded ++ passed.map fun h => h.telegram }).updCounters .plant fun c =>
          { c with droppedGuard := saturate c.droppedGuard dropped.length })

/-! ## The Unit Monitor (chapter 1) -/

/-- R136: a UNIT REPORT from no unit in service, or with LEN other than 8, is forwarded without being read. R6: the
effects common to every report that is read, whatever the unit's condition. R5: recognition tries the trip entries
that apply in index order, then, with no transition in flight, the mode entries. -/
def Obligations.UnitReportsAreReadAndRecognised : Prop :=
  (∀ (dst src : Byte) (ident tag : Half) (payload : List Byte) (s : State), s.Receives .unit →
    payload.length ≤ 64 → s.unitAt src = none ∨ payload.length ≠ 8 →
    exec (.unitReport dst src ident tag payload) s =
      .next ((s.heard .unit src).forwardTo .plant (unitReportTelegram dst src ident tag payload))) ∧
  (∀ (dst src : Byte) (ident tag : Half) (w : BitVec 32) (power speed : Half) (u : UnitNo) (s : State),
    s.Receives .unit → s.unitAt src = some u →
    ∃ t : State, exec (.unitReport dst src ident tag (wordBytes w ++ halfBytes power ++ halfBytes speed)) s = .next t ∧
      (t.unit u).silenceDeadline = some (s.now + 100 * s.plan.unitEntries[u.val].unitSilence.toNat) ∧
      (t.unit u).silent = false ∧
      (t.unit u).lastReport = some { statusWord := w, power := power, speed := speed }) ∧
  (∀ (s : State) (u : UnitNo) (w : BitVec 32),
    let hit : Fin 12 → Prop := fun i =>
      let e := s.plan.recognition[i.val]
      e.enabled = true ∧ e.units.getLsbD u.val = true ∧ e.mode.val ≤ 5 ∧ w &&& e.mask = e.value &&& e.mask
    let trip : Fin 12 → Prop := fun i => s.plan.recognition[i.val].mode = 5
    (∀ i, hit i → trip i → (∀ j, j < i → ¬ (hit j ∧ trip j)) → s.recognise u w = .trip i) ∧
    ((∀ j, ¬ (hit j ∧ trip j)) →
      ((s.unit u).transition ≠ none → s.recognise u w = .none) ∧
      ((s.unit u).transition = none →
        (∀ i m, hit i → (∀ j, j < i → ¬ hit j) → (modeCode m).toNat = s.plan.recognition[i.val].mode.val →
          s.recognise u w = .mode m) ∧
        ((∀ i, ¬ hit i) → s.recognise u w = .none))))

/-- R6, R8, R9: what a report does to a unit with no transition in flight and no claim waiting, by its MODE and the
result of recognition; the report is forwarded last. R6, R10, R13, R21: the same whatever waits for the unit: the
report that finds it SILENT ends the silence first, with ALERT UNIT_SILENT of DETAIL 0, and the end of silence, a
recognition, a drift and the leaving of TRIPPED are each followed by the one start attempt of the report. The end of a
drain comes after it (log 14). -/
def Obligations.UnitReportAtRest : Prop :=
  (∀ (dst src : Byte) (ident tag : Half) (w : BitVec 32) (power speed : Half) (u : UnitNo) (s : State),
    s.Receives .unit → s.unitAt src = some u → s.DispatcherStateSound → s.orders = [] →
    (s.unit u).transition = none → (s.unit u).reserveClaim = none → (s.unit u).silent = false →
    let payload := wordBytes w ++ halfBytes power ++ halfBytes speed
    let s1 := (s.heard .unit src).updUnit u fun r =>
      { r with
        silenceDeadline := some (s.now + 100 * s.plan.unitEntries[u.val].unitSilence.toNat)
        lastReport := some { statusWord := w, power := power, speed := speed } }
    let result : State → Prop := fun t =>
      exec (.unitReport dst src ident tag payload) s =
        .next (t.forwardTo .plant (unitReportTelegram dst src ident tag payload))
    let tripped : Fin 12 → State := fun i =>
      ((s1.updUnit u fun r => { r with tripSeen := true, mode := .tripped }).sendAlert .trip (unitByte u)
        (natHalf (0x100 + i.val))).dutyEvent .trips u
    ((s.unit u).mode = .out → result s1) ∧
    ((s.unit u).mode = .unknown →
      (∀ i, s.recognise u w = .trip i → result (tripped i)) ∧
      (∀ n, s.recognise u w = .mode n → result (s1.changeMode u (.settled n))) ∧
      (s.recognise u w = .none → result s1)) ∧
    (∀ m, (s.unit u).mode = .settled m →
      (∀ i, s.recognise u w = .trip i → result (tripped i)) ∧
      (∀ n, s.recognise u w = .mode n →
        (n = m → result s1) ∧
        (n ≠ m → result ((s1.changeMode u (.settled n)).sendAlert .modeDrift (unitByte u)
          (natHalf ((modeCode m).toNat * 256 + (modeCode n).toNat))))) ∧
      (s.recognise u w = .none → result s1)) ∧
    ((s.unit u).mode = .tripped →
      (∀ i, s.recognise u w = .trip i → result (s1.updUnit u fun r => { r with tripSeen := true })) ∧
      (∀ n, s.recognise u w = .mode n →
        ((s.unit u).tripInput = false → result (s1.changeMode u (.settled n))) ∧
        ((s.unit u).tripInput = true → result s1)) ∧
      (s.recognise u w = .none → result s1))) ∧
  (∀ (dst src : Byte) (ident tag : Half) (w : BitVec 32) (power speed : Half) (u : UnitNo) (s : State),
    s.Receives .unit → s.unitAt src = some u → (s.unit u).transition = none →
    let payload := wordBytes w ++ halfBytes power ++ halfBytes speed
    let taken := (s.heard .unit src).reportTaken u { statusWord := w, power := power, speed := speed }
    let result : State → Prop := fun t =>
      exec (.unitReport dst src ident tag payload) s =
        .next (t.drainCheck.forwardTo .plant (unitReportTelegram dst src ident tag payload))
    let stays : State → Prop := fun t => result (if (s.unit u).silent then t.startAttempt u else t)
    let changes : State → Prop := fun t => result (t.startAttempt u)
    ((s.unit u).mode = .out → stays taken) ∧
    ((s.unit u).mode = .unknown →
      (∀ i, s.recognise u w = .trip i → stays (taken.trippedBy u (natHalf (0x100 + i.val)))) ∧
      (∀ n, s.recognise u w = .mode n → changes (taken.changeMode u (.settled n))) ∧
      (s.recognise u w = .none → stays taken)) ∧
    (∀ m, (s.unit u).mode = .settled m →
      (∀ i, s.recognise u w = .trip i → stays (taken.trippedBy u (natHalf (0x100 + i.val)))) ∧
      (∀ n, s.recognise u w = .mode n →
        (n = m → stays taken) ∧
        (n ≠ m → changes ((taken.changeMode u (.settled n)).sendAlert .modeDrift (unitByte u)
          (natHalf ((modeCode m).toNat * 256 + (modeCode n).toNat))))) ∧
      (s.recognise u w = .none → stays taken)) ∧
    ((s.unit u).mode = .tripped →
      (∀ i, s.recognise u w = .trip i → stays (taken.updUnit u fun r => { r with tripSeen := true })) ∧
      (∀ n, s.recognise u w = .mode n →
        ((s.unit u).tripInput = false → changes (taken.changeMode u (.settled n))) ∧
        ((s.unit u).tripInput = true → stays taken)) ∧
      (s.recognise u w = .none → stays taken)))

/-- R7, R71, R72: a report for a moving unit that matches no trip entry lands the unit in the phase's LANDING when it
completes the running phase, and otherwise leaves its MODE and its transition (no silence ends with it). R72, R73,
R86: the last phase of a transition that holds no resource completes without CUT and with no claim waiting: the unit
lands, takes the setpoint command if its setpoint differs, and the transition ends DONE. R72, R67, R69: a phase that
is not the last completes without CUT, holding no resource, and the next phase claims none: the unit lands and the
next phase is RUNNING, its command sent. R72, R73, R81: whatever the transition holds, a completion releases what KEEP
does not name, converter first, and lands the unit; then it ends CUT where CUT names a claim, else ends DONE after the
last phase, else starts the next phase; an end is followed by its start attempt and the end of a drain. R86, R145,
R146: the end of a transition withdraws its wait-list entry, releases what it holds, sends its status and its duty
event and removes its record; then held telegrams are judged again, but after a trip they are discarded and counted in
DROPPED_GUARD. R6, R7, R13: the same of every report that a moving unit sends, SILENT or not, and of one that trips
it, with the one start attempt of the report (R21). -/
def Obligations.ReportCompletesTheRunningPhase : Prop :=
  (∀ (dst src : Byte) (ident tag : Half) (w : BitVec 32) (power speed : Half) (u : UnitNo) (m : Mode) (x : Transition)
      (s : State),
    s.Receives .unit → s.unitAt src = some u → (s.unit u).mode = .settled m → (s.unit u).transition = some x →
    (∀ i, s.recognise u w ≠ .trip i) →
    let p := s.phaseAt x.route x.phaseNo
    ∃ t : State, exec (.unitReport dst src ident tag (wordBytes w ++ halfBytes power ++ halfBytes speed)) s = .next t ∧
      (x.phaseState = .running → w &&& p.statusMask = p.statusValue &&& p.statusMask →
        (t.unit u).mode = .settled p.landing) ∧
      ((s.unit u).silent = false → (x.phaseState = .waiting ∨ w &&& p.statusMask ≠ p.statusValue &&& p.statusMask) →
        (t.unit u).mode = .settled m ∧ (t.unit u).transition = some x)) ∧
  (∀ (dst src : Byte) (ident tag : Half) (w : BitVec 32) (power speed : Half) (u : UnitNo) (m : Mode) (x : Transition)
      (s : State),
    s.Receives .unit → s.unitAt src = some u → s.orders = [] → (s.unit u).mode = .settled m →
    (s.unit u).transition = some x → (s.unit u).reserveClaim = none → (s.unit u).silent = false →
    (s.unit u).holdQueue = [] → s.dispatcher ≠ .draining → (∀ i, s.recognise u w ≠ .trip i) →
    x.phaseState = .running → x.heldConverter = none → x.heldWaterway = none → x.cut = none →
    x.phaseNo = s.plan.routes[x.route.val].phaseCount →
    let p := s.phaseAt x.route x.phaseNo
    w &&& p.statusMask = p.statusValue &&& p.statusMask →
    let payload := wordBytes w ++ halfBytes power ++ halfBytes speed
    let s1 := (s.heard .unit src).updUnit u fun r =>
      { r with
        silenceDeadline := some (s.now + 100 * s.plan.unitEntries[u.val].unitSilence.toNat)
        lastReport := some { statusWord := w, power := power, speed := speed } }
    let landed := (s1.updUnit u fun r => { r with transition := some { x with lastLanding := p.landing } }).changeMode u
      (.settled p.landing)
    let commanded :=
      if (x.target = .gen ∨ x.target = .pmp) ∧ (s.unit u).lastSetpoint ≠ x.setpoint then
        (landed.sendUnitCommand u s.plan.station.setpointCommand x.setpoint 0xFF 0 0).updUnit u fun r =>
          { r with lastSetpoint := x.setpoint }
      else landed
    exec (.unitReport dst src ident tag payload) s =
      .next (((((commanded.withdrawEntry u).sendStatus x.reference .done .none (unitByte u) (modeCode x.target)
          x.source).dutyEvent .transitionsDone u).updUnit u fun r => { r with transition := none }).forwardTo .plant
        (unitReportTelegram dst src ident tag payload))) ∧
  (∀ (dst src : Byte) (ident tag : Half) (w : BitVec 32) (power speed : Half) (u : UnitNo) (m : Mode) (x : Transition)
      (s : State),
    s.Receives .unit → s.unitAt src = some u → s.DispatcherStateSound → (s.unit u).mode = .settled m →
    (s.unit u).transition = some x → (s.unit u).silent = false → (∀ i, s.recognise u w ≠ .trip i) →
    x.phaseState = .running → x.heldConverter = none → x.heldWaterway = none → x.cut = none →
    x.phaseNo ≠ s.plan.routes[x.route.val].phaseCount →
    let p := s.phaseAt x.route x.phaseNo
    let q := s.phaseAt x.route (x.phaseNo + 1)
    w &&& p.statusMask = p.statusValue &&& p.statusMask → q.claim = .none →
    let payload := wordBytes w ++ halfBytes power ++ halfBytes speed
    let s1 := (s.heard .unit src).updUnit u fun r =>
      { r with
        silenceDeadline := some (s.now + 100 * s.plan.unitEntries[u.val].unitSilence.toNat)
        lastReport := some { statusWord := w, power := power, speed := speed } }
    let landed := (s1.updUnit u fun r => { r with transition := some { x with lastLanding := p.landing } }).changeMode u
      (.settled p.landing)
    let setpoint := if q.sendSetpoint then x.setpoint else 0
    exec (.unitReport dst src ident tag payload) s =
      .next (((landed.sendUnitCommand u q.command setpoint 0xFF (natByte x.route.val) (natByte (x.phaseNo + 1))).updUnit u
        fun r =>
          { r with
            lastSetpoint := if q.sendSetpoint then x.setpoint else r.lastSetpoint
            transition := some
              { x with
                lastLanding := p.landing, phaseNo := x.phaseNo + 1, retriesUsed := 0
                deadline := s.now + 100 * q.timeLimit.toNat } }).forwardTo .plant
        (unitReportTelegram dst src ident tag payload))) ∧
  (∀ (dst src : Byte) (ident tag : Half) (w : BitVec 32) (power speed : Half) (u : UnitNo) (m : Mode) (x : Transition)
      (s : State),
    s.Receives .unit → s.unitAt src = some u → (s.unit u).mode = .settled m → (s.unit u).transition = some x →
    (s.unit u).silent = false → (∀ i, s.recognise u w ≠ .trip i) → x.phaseState = .running →
    let p := s.phaseAt x.route x.phaseNo
    w &&& p.statusMask = p.statusValue &&& p.statusMask →
    let payload := wordBytes w ++ halfBytes power ++ halfBytes speed
    let s1 := (s.heard .unit src).updUnit u fun r =>
      { r with
        silenceDeadline := some (s.now + 100 * s.plan.unitEntries[u.val].unitSilence.toNat)
        lastReport := some { statusWord := w, power := power, speed := speed } }
    let s2 := if p.keep = .converter ∨ p.keep = .both then s1 else s1.releaseConverter u
    let s3 := if p.keep = .waterway ∨ p.keep = .both then s2 else s2.releaseWindow u
    let landed := (s3.updUnit u fun r =>
      { r with transition := r.transition.map fun y => { y with lastLanding := p.landing } }).changeMode u
        (.settled p.landing)
    let result : State → Prop := fun t =>
      exec (.unitReport dst src ident tag payload) s =
        .next (t.forwardTo .plant (unitReportTelegram dst src ident tag payload))
    let ended : State → State := fun t => (t.startAttempt u).drainCheck
    (x.cut ≠ none → result (ended (landed.endTransition u .cut .none false))) ∧
    (x.cut = none → x.phaseNo = s.plan.routes[x.route.val].phaseCount →
      let commanded :=
        if (x.target = .gen ∨ x.target = .pmp) ∧ (landed.unit u).lastSetpoint ≠ x.setpoint then
          (landed.sendUnitCommand u s.plan.station.setpointCommand x.setpoint 0xFF 0 0).updUnit u fun r =>
            { r with lastSetpoint := x.setpoint }
        else landed
      result (ended (commanded.endTransition u .done .none false))) ∧
    (x.cut = none → x.phaseNo ≠ s.plan.routes[x.route.val].phaseCount →
      result (landed.phaseStart u (x.phaseNo + 1)))) ∧
  (∀ (u : UnitNo) (x : Transition) (st : Status) (reason : Reason) (s : State), (s.unit u).transition = some x →
    let answered := (((s.withdrawEntry u).releaseConverter u).releaseWindow u).sendStatus x.reference st reason
      (unitByte u) (modeCode x.target) x.source
    let ended : DutyEvent → State := fun e =>
      (answered.dutyEvent e u).updUnit u fun r => { r with transition := none }
    let discarded : State → State := fun t =>
      (t.updUnit u fun r => { r with holdQueue := [] }).updCounters .plant fun c =>
        { c with droppedGuard := saturate c.droppedGuard (t.unit u).holdQueue.length }
    (st = .done →
      s.endTransition u st reason false = (ended .transitionsDone).rejudge u ∧
      s.endTransition u st reason true = discarded (ended .transitionsDone)) ∧
    (st = .cut →
      s.endTransition u st reason false = (ended .cuts).rejudge u ∧
      s.endTransition u st reason true = discarded (ended .cuts)) ∧
    (st = .failed →
      s.endTransition u st reason false = (ended .transitionsFailed).rejudge u ∧
      s.endTransition u st reason true = discarded (ended .transitionsFailed))) ∧
  (∀ (dst src : Byte) (ident tag : Half) (w : BitVec 32) (power speed : Half) (u : UnitNo) (m : Mode) (x : Transition)
      (s : State),
    s.Receives .unit → s.unitAt src = some u → (s.unit u).mode = .settled m → (s.unit u).transition = some x →
    let payload := wordBytes w ++ halfBytes power ++ halfBytes speed
    let taken := (s.heard .unit src).reportTaken u { statusWord := w, power := power, speed := speed }
    let result : State → Prop := fun t =>
      exec (.unitReport dst src ident tag payload) s =
        .next (t.drainCheck.forwardTo .plant (unitReportTelegram dst src ident tag payload))
    let stays : State → Prop := fun t => result (if (s.unit u).silent then t.startAttempt u else t)
    (∀ i, s.recognise u w = .trip i → result ((taken.trippedBy u (natHalf (0x100 + i.val))).startAttempt u)) ∧
    ((∀ i, s.recognise u w ≠ .trip i) →
      let p := s.phaseAt x.route x.phaseNo
      (x.phaseState = .waiting ∨ w &&& p.statusMask ≠ p.statusValue &&& p.statusMask → stays taken) ∧
      (x.phaseState = .running → w &&& p.statusMask = p.statusValue &&& p.statusMask →
        let s2 := if p.keep = .converter ∨ p.keep = .both then taken else taken.releaseConverter u
        let s3 := if p.keep = .waterway ∨ p.keep = .both then s2 else s2.releaseWindow u
        let landed := (s3.updUnit u fun r =>
          { r with transition := r.transition.map fun y => { y with lastLanding := p.landing } }).changeMode u
            (.settled p.landing)
        (x.cut ≠ none → result ((landed.endTransition u .cut .none false).startAttempt u)) ∧
        (x.cut = none → x.phaseNo = s.plan.routes[x.route.val].phaseCount →
          let commanded :=
            if (x.target = .gen ∨ x.target = .pmp) ∧ (landed.unit u).lastSetpoint ≠ x.setpoint then
              (landed.sendUnitCommand u s.plan.station.setpointCommand x.setpoint 0xFF 0 0).updUnit u fun r =>
                { r with lastSetpoint := x.setpoint }
            else landed
          result ((commanded.endTransition u .done .none false).startAttempt u)) ∧
        (x.cut = none → x.phaseNo ≠ s.plan.routes[x.route.val].phaseCount →
          stays (landed.phaseStart u (x.phaseNo + 1))))))

/-- R11 to R14: the TRIP line of a unit. R13, R83, R86: with no claim waiting, a moving unit's trip is the end of its
transition by a trip, with its hold queue discarded, between the entry into TRIPPED and its report. A TRIP level that
is reported again makes no trip event (log 22). R11: TRIP_INPUT becoming clear changes nothing else. R13 steps 3 and
4, whatever waits: a queued order for the unit and a pending reserve claim end FAILED with UNIT_TRIPPED, but for the
one that CUT names, which stays; a transition's end is followed by its start attempt, and the end of a drain comes
last (log 14). -/
def Obligations.TripLineTripsItsUnit : Prop :=
  (∀ (u : UnitNo) (s : State), s.DispatcherStateSound →
    let s1 := { (s.updUnit u fun r => { r with tripInput := true }) with
      lines := { s.lines with trip := s.lines.trip ||| BitVec.twoPow 8 u.val } }
    (s.plan.station.unitCount.toNat ≤ u.val ∨ (s.unit u).tripInput = true →
      exec (.tripLineAsserted u) s = .next s1) ∧
    (u.val < s.plan.station.unitCount.toNat → (s.unit u).tripInput = false →
      ((s.unit u).transition = none →
        ((s.unit u).mode = .tripped → exec (.tripLineAsserted u) s =
          .next (s1.updUnit u fun r => { r with tripSeen := true })) ∧
        ((s.unit u).mode = .out → exec (.tripLineAsserted u) s =
          .next (((s1.updUnit u fun r => { r with tripSeen := true }).sendAlert .trip (unitByte u) 0).dutyEvent
            .trips u))) ∧
      ((s.unit u).mode ≠ .tripped → (s.unit u).mode ≠ .out →
        ((s.unit u).transition = none → (s.unit u).reserveClaim = none → s.orders = [] →
          exec (.tripLineAsserted u) s =
            .next (((s1.updUnit u fun r => { r with tripSeen := true, mode := .tripped }).sendAlert .trip (unitByte u)
              0).dutyEvent .trips u)) ∧
        ((s.unit u).transition ≠ none → (s.unit u).reserveClaim = none → s.orders = [] → s.dispatcher ≠ .draining →
          exec (.tripLineAsserted u) s =
            .next ((((s1.updUnit u fun r => { r with tripSeen := true, mode := .tripped }).endTransition u .failed
              .unitTripped true).sendAlert .trip (unitByte u) 0).dutyEvent .trips u)) ∧
        ∃ t : State, exec (.tripLineAsserted u) s = .next t ∧
          (t.unit u).mode = .tripped ∧ (t.unit u).tripSeen = true ∧ (t.unit u).tripInput = true ∧
          (t.unit u).transition = none ∧ ((s.unit u).transition ≠ none → (t.unit u).holdQueue = []) ∧
          (∀ o ∈ t.orders, o.target = .unit u → s.cutOf u = some { origin := o.origin, tag := o.tag }) ∧
          (∀ c, (t.unit u).reserveClaim = some c → (s.unit u).reserveClaim = some c ∧
            s.cutOf u = some { origin := .reserve, tag := natHalf (lineNumber c.line) })))) ∧
  (∀ (u : UnitNo) (s : State), exec (.tripLineCleared u) s =
    .next { (s.updUnit u fun r => { r with tripInput := false }) with
      lines := { s.lines with trip := s.lines.trip &&& ~~~ BitVec.twoPow 8 u.val } }) ∧
  (∀ (u : UnitNo) (s : State),
    let s1 := { (s.updUnit u fun r => { r with tripInput := true }) with
      lines := { s.lines with trip := s.lines.trip ||| BitVec.twoPow 8 u.val } }
    u.val < s.plan.station.unitCount.toNat → (s.unit u).tripInput = false → (s.unit u).mode ≠ .tripped →
    (s.unit u).mode ≠ .out →
    let tripped := s1.trippedBy u 0
    exec (.tripLineAsserted u) s =
      .next (if (s.unit u).transition = none then tripped else tripped.startAttempt u).drainCheck)

/-- R16, R17, R2: the OUT line of a unit, debounced: the command reports a completed debounce, and ends the debounce
that a reset or an entry into service has started (log 17). Entry into OUT ends what the unit carries and what waits
for it (R84, R86: its transition's end, with no claim waiting and the hold queue judged again); with the unit already
out by management only OUT_INPUT changes; an OUT level that is reported again changes nothing but a debounce in
progress (log 22); a unit not in service is not touched. R16, R19, R2: the OUT line clears: the unit leaves OUT to
TRIPPED or UNKNOWN when no other source holds it out. R17 steps 3 and 4, whatever waits: a queued order for the unit
and a pending reserve claim end FAILED with UNIT_OUT, the one that CUT names too; a transition's end is followed by
its start attempt, and the end of a drain comes last (log 14). -/
def Obligations.OutLineTakesItsUnitOutAndReleasesIt : Prop :=
  (∀ (u : UnitNo) (s : State), s.DispatcherStateSound →
    let s1 := { s with lines := { s.lines with out := s.lines.out ||| BitVec.twoPow 8 u.val } }
    (s.plan.station.unitCount.toNat ≤ u.val → exec (.outInputSet u) s = .next s1) ∧
    (u.val < s.plan.station.unitCount.toNat →
      ((s.unit u).outInput = true ∨ (s.unit u).configuredOut = true → exec (.outInputSet u) s =
        .next (s1.updUnit u fun r => { r with outInput := true, outDebounce := none })) ∧
      ((s.unit u).outInput = false → (s.unit u).configuredOut = false →
        ((s.unit u).transition = none → (s.unit u).reserveClaim = none → s.orders = [] → exec (.outInputSet u) s =
          .next (s1.updUnit u fun r => { r with outInput := true, outDebounce := none, mode := .out })) ∧
        ((s.unit u).transition ≠ none → (s.unit u).reserveClaim = none → s.orders = [] → s.dispatcher ≠ .draining →
          exec (.outInputSet u) s =
            .next ((s1.updUnit u fun r => { r with outInput := true, outDebounce := none, mode := .out }).endTransition u
              .failed .unitOut false)) ∧
        ∃ t : State, exec (.outInputSet u) s = .next t ∧
          (t.unit u).mode = .out ∧ (t.unit u).outInput = true ∧ (t.unit u).transition = none ∧
          (t.unit u).reserveClaim = none ∧ ((s.unit u).transition ≠ none → (t.unit u).holdQueue = []) ∧
          ∀ o ∈ t.orders, o.target ≠ .unit u))) ∧
  (∀ (u : UnitNo) (s : State), s.DispatcherStateSound →
    let s1 := { s with lines := { s.lines with out := s.lines.out &&& ~~~ BitVec.twoPow 8 u.val } }
    (s.plan.station.unitCount.toNat ≤ u.val → exec (.outInputClear u) s = .next s1) ∧
    (u.val < s.plan.station.unitCount.toNat →
      ((s.unit u).outInput = false ∨ (s.unit u).configuredOut = true → exec (.outInputClear u) s =
        .next (s1.updUnit u fun r => { r with outInput := false, outDebounce := none })) ∧
      ((s.unit u).outInput = true → (s.unit u).configuredOut = false → exec (.outInputClear u) s =
        .next (s1.updUnit u fun r =>
          { r with
            outInput := false, outDebounce := none
            mode := if (s.unit u).tripInput then .tripped else .unknown })))) ∧
  (∀ (u : UnitNo) (s : State),
    let s1 := { s with lines := { s.lines with out := s.lines.out ||| BitVec.twoPow 8 u.val } }
    u.val < s.plan.station.unitCount.toNat → (s.unit u).outInput = false → (s.unit u).configuredOut = false →
    let taken := ((s1.updUnit u fun r => { r with outInput := true, outDebounce := none, mode := .out }).endTransition u
      .failed .unitOut false).waitingFails u none .unitOut
    exec (.outInputSet u) s =
      .next (if (s.unit u).transition = none then taken else taken.startAttempt u).drainCheck)

/-- R10: the unit silence timer expires once its deadline is reached (log 2), and does nothing before. R100: the
waterway silence timer expires once its deadline is reached (log 2): it stops, and raises ALARM unless ALARM is
already set. -/
def Obligations.SilenceTimersExpireAtTheirDeadline : Prop :=
  (∀ (u : UnitNo) (s : State),
    (∀ d, (s.unit u).silenceDeadline = some d → d ≤ s.now → exec (.unitSilenceExpiry u) s =
      .next ((s.updUnit u fun r => { r with silent := true, silenceDeadline := none }).sendAlert .unitSilent
        (unitByte u) 1)) ∧
    ((∀ d, (s.unit u).silenceDeadline = some d → s.now < d) → exec (.unitSilenceExpiry u) s = .next s)) ∧
  (∀ (w : WaterwayNo) (s : State),
    let stopped := s.updWaterway w fun y => { y with silenceDeadline := none }
    ((∀ d, (s.waterway w).silenceDeadline = some d → s.now < d) → exec (.waterwaySilenceExpiry w) s = .next s) ∧
    (∀ d, (s.waterway w).silenceDeadline = some d → d ≤ s.now →
      ((s.waterway w).alarm = true → exec (.waterwaySilenceExpiry w) s = .next stopped) ∧
      ((s.waterway w).alarm = false → exec (.waterwaySilenceExpiry w) s =
        .next ((stopped.updWaterway w fun y => { y with alarm := true, alarmSeen := true }).sendAlert .waterwayAlarm
          (natByte w.val) 2))))

/-! ## Dispatch orders and the order queue (chapter 3) -/

/-- R26: route lookup gives the lowest-indexed enabled route from m to n that serves the unit. R51, R52: selection
chooses the eligible unit with the lowest selecting counter, the lowest-numbered among equals, and none when no unit
is eligible. -/
def Obligations.LookupAndSelectionTakeTheLowest : Prop :=
  (∀ (s : State) (u : UnitNo) (m n : Mode),
    let fits : Fin 32 → Prop := fun r =>
      let e := s.plan.routes[r.val]
      e.enabled = true ∧ e.fromMode = m ∧ e.toMode = n ∧ e.units.getLsbD u.val = true
    (∀ r, s.lookupRoute u m n = some r ↔ fits r ∧ ∀ q, q < r → ¬ fits q) ∧
    (s.lookupRoute u m n = none ↔ ∀ r, ¬ fits r)) ∧
  (∀ (s : State) (o : Order) (p : Fin 4), o.target = .pool p →
    let pool := s.plan.pools[p.val]
    let count : UnitNo → Nat := fun u => (s.counterValue u pool.selectCounter).toNat
    let eligible : UnitNo → Prop := fun u =>
      pool.members.getLsbD u.val = true ∧ u.val < s.plan.station.unitCount.toNat ∧ (s.unit u).silent = false ∧
        (s.unit u).transition = none ∧ (s.unit u).reserveClaim = none ∧ (∀ q ∈ s.orders, q.target ≠ .unit u) ∧
        ∃ m, (s.unit u).mode = .settled m ∧ m ≠ o.mode ∧ s.lookupRoute u m o.mode ≠ none
    (∀ u, s.selectUnit o = some u ↔
      eligible u ∧ ∀ v, eligible v → count u ≤ count v ∧ (count v = count u → u ≤ v)) ∧
    (s.selectUnit o = none ↔ ∀ u, ¬ eligible u))

/-- R43: an order whose payload fails check 1 is refused MALFORMED, with UNIT and MODE 0xFF, in every dispatcher state.
R44, R61: in UNPLANNED and DRAINING an order that passes check 1 is refused, with MODE and TARGET as received. R45,
R46, R47: in DIRECTED an order that fails one of checks 3 to 8 is refused with that check's reason, and changes
nothing else. -/
def Obligations.RefusedOrdersAreAnsweredWithTheirReason : Prop :=
  (∀ (src : Byte) (ident tag : Half) (payload : List Byte) (s : State), s.plantPort.link = true →
    payload.length ≤ 64 →
    (payload.length ≠ 7 ∨ 1 < (payload.getD 0 0).toNat ∨
      4000 < (payload.getD 3 0).toNat * 256 + (payload.getD 4 0).toNat) →
    exec (.dispatchOrder src ident tag payload) s =
      .next ((s.heard .plant src).sendStatus tag .refused .malformed 0xFF 0xFF .dispatch)) ∧
  (∀ (src : Byte) (ident tag : Half) (targetType target mode : Byte) (setpoint validity : Half) (s : State),
    s.plantPort.link = true → targetType.toNat ≤ 1 → setpoint.toNat ≤ 4000 →
    let i := Instr.dispatchOrder src ident tag (orderPayload targetType target mode setpoint validity)
    let shown := if targetType = 0 then target else 0xFF
    (s.dispatcher = .unplanned →
      exec i s = .next ((s.heard .plant src).sendStatus tag .refused .notPlanned shown mode .dispatch)) ∧
    (s.dispatcher = .draining →
      exec i s = .next ((s.heard .plant src).sendStatus tag .refused .draining shown mode .dispatch))) ∧
  (∀ (src : Byte) (ident tag : Half) (target mode : Byte) (setpoint validity : Half) (s : State),
    s.plantPort.link = true → s.dispatcher = .directed → setpoint.toNat ≤ 4000 →
    let toUnit := Instr.dispatchOrder src ident tag (orderPayload 0 target mode setpoint validity)
    let toPool := Instr.dispatchOrder src ident tag (orderPayload 1 target mode setpoint validity)
    let refused : Byte → Reason → Host.Outcome State Fault Refusal := fun shown r =>
      .next ((s.heard .plant src).sendStatus tag .refused r shown mode .dispatch)
    (8 ≤ target.toNat ∨ s.plan.station.unitCount.toNat ≤ target.toNat → exec toUnit s = refused target .noSuchUnit) ∧
    (4 ≤ target.toNat → exec toPool s = refused 0xFF .noSuchPool) ∧
    (∀ p : Fin 4, p.val = target.toNat →
      (s.plan.pools[p.val].members = 0 → exec toPool s = refused 0xFF .noSuchPool) ∧
      (s.plan.pools[p.val].members ≠ 0 →
        (4 < mode.toNat → exec toPool s = refused 0xFF .badMode) ∧
        (mode.toNat ≤ 4 →
          ((∀ u : UnitNo, s.plan.pools[p.val].members.getLsbD u.val = true →
              (s.unit u).mode = .out ∨ (s.unit u).mode = .tripped) →
            exec toPool s = refused 0xFF .unitUnavailable) ∧
          ((∃ u : UnitNo, s.plan.pools[p.val].members.getLsbD u.val = true ∧ (s.unit u).mode ≠ .out ∧
              (s.unit u).mode ≠ .tripped) → 16 ≤ s.orders.length →
            exec toPool s = refused 0xFF .queueFull)))) ∧
    (∀ u : UnitNo, u.val = target.toNat → u.val < s.plan.station.unitCount.toNat →
      (4 < mode.toNat → exec toUnit s = refused target .badMode) ∧
      (mode.toNat ≤ 4 →
        ((s.unit u).mode = .out ∨ (s.unit u).mode = .tripped → exec toUnit s = refused target .unitUnavailable) ∧
        ((s.unit u).mode ≠ .out → (s.unit u).mode ≠ .tripped →
          ((s.unit u).reserveClaim ≠ none → exec toUnit s = refused target .outranked) ∧
          ((s.unit u).reserveClaim = none → (∀ o ∈ s.orders, o.target ≠ .unit u) → 16 ≤ s.orders.length →
            exec toUnit s = refused target .queueFull)))))

/-- R47, R41: an accepted order is appended with the next AGE and its EXPIRY and is answered ACCEPTED; one for a unit
that is UNKNOWN or SILENT, with no transition, then waits. With R46, an older order for the unit ends SUPERSEDED
first. R47, R52: an accepted pool order for which no unit is eligible is appended, answered ACCEPTED with UNIT 0xFF,
and waits. -/
def Obligations.AcceptedOrderWaits : Prop :=
  (∀ (src : Byte) (ident tag : Half) (u : UnitNo) (n : Mode) (setpoint validity : Half) (s : State),
    s.plantPort.link = true → s.dispatcher = .directed → setpoint.toNat ≤ 4000 →
    u.val < s.plan.station.unitCount.toNat → (s.unit u).transition = none → (s.unit u).reserveClaim = none →
    (s.unit u).mode = .unknown ∨ ((s.unit u).silent = true ∧ ∃ m, (s.unit u).mode = .settled m) →
    let i := Instr.dispatchOrder src ident tag (orderPayload 0 (unitByte u) (modeCode n) setpoint validity)
    let s0 := s.heard .plant src
    let record : Order :=
      { tag := tag, origin := .dispatch, target := .unit u, mode := n, setpoint := setpoint
        expiry := if validity = 0 then none else some (s.now + 1000 * validity.toNat), age := s.ageCount }
    ((∀ o ∈ s.orders, ∃ v, v ≠ u ∧ o.target = .unit v) → s.orders.length < 16 →
      exec i s = .next (({ s0 with orders := s.orders ++ [record], ageCount := s.ageCount + 1 } : State).sendStatus tag
        .accepted .none (unitByte u) (modeCode n) .dispatch)) ∧
    (∀ o : Order, s.orders = [o] → o.target = .unit u → o.origin ≠ .reserve →
      exec i s = .next ((({ s0 with orders := [record], ageCount := s.ageCount + 1 } : State).sendStatus o.tag
        .superseded .none (unitByte u) (modeCode o.mode) o.origin).sendStatus tag
        .accepted .none (unitByte u) (modeCode n) .dispatch))) ∧
  (∀ (src : Byte) (ident tag : Half) (p : Fin 4) (n : Mode) (setpoint validity : Half) (s : State),
    s.plantPort.link = true → s.dispatcher = .directed → setpoint.toNat ≤ 4000 → s.orders = [] →
    (∃ u : UnitNo, s.plan.pools[p.val].members.getLsbD u.val = true ∧ (s.unit u).mode ≠ .out ∧
      (s.unit u).mode ≠ .tripped) →
    let record : Order :=
      { tag := tag, origin := .dispatch, target := .pool p, mode := n, setpoint := setpoint
        expiry := if validity = 0 then none else some (s.now + 1000 * validity.toNat), age := s.ageCount }
    s.selectUnit record = none →
    exec (.dispatchOrder src ident tag (orderPayload 1 (natByte p.val) (modeCode n) setpoint validity)) s =
      .next (({ s.heard .plant src with orders := [record], ageCount := s.ageCount + 1 } : State).sendStatus tag
        .accepted .none 0xFF (modeCode n) .dispatch))

/-- R53, R55, R66, R67, R69, R28: an accepted order for an available unit in another mode is started at once on its
route: ACCEPTED and STARTED are sent, the transition is created, and its first phase, which claims no resource, is
RUNNING with its command sent. A pool order starts the unit that selection chooses. A first phase that claims a
resource is WAITING under its wait limit and asks for the converter, or else for the window (R67). The same of every
phase start, where a claim for what is held asks for nothing (R33), and of every start attempt of a single waiting
order (R53, R55). R53 to R55, R57: a start attempt for a unit at rest takes its pending reserve claim before any
queued order, and otherwise the candidate of highest rank, the oldest among equals: it starts it and makes the pool
pass, or ends it DONE or FAILED with NO_ROUTE and begins again. An attempt for any other unit, and one without a
candidate, is only its pool pass. R57: a pool pass in which selection chooses no unit changes nothing; of two pool
orders the oldest is started first, on the unit that selection chooses, and the other on the unit that selection then
chooses. -/
def Obligations.AcceptedOrderStartsItsTransition : Prop :=
  (∀ (src : Byte) (ident tag : Half) (u : UnitNo) (m n : Mode) (r : Fin 32) (setpoint validity : Half) (s : State),
    s.plantPort.link = true → s.dispatcher = .directed → setpoint.toNat ≤ 4000 → s.orders = [] →
    u.val < s.plan.station.unitCount.toNat → (s.unit u).mode = .settled m → (s.unit u).silent = false →
    (s.unit u).transition = none → (s.unit u).reserveClaim = none → m ≠ n → s.lookupRoute u m n = some r →
    let p := s.plan.phases[s.plan.routes[r.val].firstPhase.val]
    let answered : Byte → State := fun shown =>
      (({ s.heard .plant src with ageCount := s.ageCount + 1 } : State).sendStatus tag .accepted .none shown
        (modeCode n) .dispatch).sendStatus tag .started .none (unitByte u) (modeCode n) .dispatch
    let record : PhaseState → Nat → Transition := fun state deadline =>
      { unit := u, route := r, origin := m, target := n, source := .dispatch, reference := tag
        setpoint := setpoint, phaseNo := 1, phaseState := state, retriesUsed := 0, deadline := deadline
        heldConverter := none, heldWaterway := none, lastLanding := m, cut := none }
    let running : Byte → State := fun shown =>
      ((answered shown).sendUnitCommand u p.command (if p.sendSetpoint then setpoint else 0) 0xFF (natByte r.val)
        1).updUnit u fun x =>
          { x with
            lastSetpoint := if p.sendSetpoint then setpoint else x.lastSetpoint
            transition := some (record .running (s.now + 100 * p.timeLimit.toNat)) }
    let waiting : Byte → State := fun shown => (answered shown).updUnit u fun x =>
      { x with transition := some (record .waiting (s.now + 1000 * s.plan.station.waitLimitDispatch.toNat)) }
    let started : Byte → State := fun shown =>
      match p.claim with
      | .none => running shown
      | .converter => (waiting shown).requestConverter u
      | .waterway => (waiting shown).requestWindow u
      | .both => (waiting shown).requestConverter u
    exec (.dispatchOrder src ident tag (orderPayload 0 (unitByte u) (modeCode n) setpoint validity)) s =
      .next (started (unitByte u)) ∧
    ∀ k : Fin 4,
      (∀ age expiry, s.selectUnit
        { tag := tag, origin := .dispatch, target := .pool k, mode := n, setpoint := setpoint, expiry := expiry,
          age := age } = some u) →
      exec (.dispatchOrder src ident tag (orderPayload 1 (natByte k.val) (modeCode n) setpoint validity)) s =
        .next (started 0xFF)) ∧
  (∀ (u : UnitNo) (k : Nat) (x : Transition) (s : State), (s.unit u).transition = some x →
    let p := s.phaseAt x.route k
    let asksConverter := (p.claim = .converter ∨ p.claim = .both) ∧ x.heldConverter = none
    let asksWindow := (p.claim = .waterway ∨ p.claim = .both) ∧ x.heldWaterway = none
    let limit : Half := match x.source with
      | .schedule => s.plan.station.waitLimitSchedule
      | .dispatch => s.plan.station.waitLimitDispatch
      | .reserve => s.plan.station.waitLimitReserve
    let converter := match x.heldConverter with
      | some c => natByte c.val
      | none => 0xFF
    let waiting := s.updUnit u fun r =>
      { r with
        transition := some
          { x with phaseNo := k, retriesUsed := 0, phaseState := .waiting, deadline := s.now + 1000 * limit.toNat } }
    (asksConverter → s.phaseStart u k = waiting.requestConverter u) ∧
    (¬ asksConverter → asksWindow → s.phaseStart u k = waiting.requestWindow u) ∧
    (¬ asksConverter → ¬ asksWindow → s.phaseStart u k =
      (s.sendUnitCommand u p.command (if p.sendSetpoint then x.setpoint else 0) converter (natByte x.route.val)
        (natByte k)).updUnit u fun r =>
          { r with
            lastSetpoint := if p.sendSetpoint then x.setpoint else r.lastSetpoint
            transition := some
              { x with
                phaseNo := k, retriesUsed := 0, phaseState := .running
                deadline := s.now + 100 * p.timeLimit.toNat } })) ∧
  (∀ (o : Order) (u : UnitNo) (m : Mode) (r : Fin 32) (s : State), s.orders = [o] → o.target = .unit u →
    u.val < s.plan.station.unitCount.toNat → (s.unit u).mode = .settled m → (s.unit u).silent = false →
    (s.unit u).transition = none → (s.unit u).reserveClaim = none → m ≠ o.mode → s.lookupRoute u m o.mode = some r →
    ∀ deadline : Nat,
    let record : Transition :=
      { unit := u, route := r, origin := m, target := o.mode, source := o.origin, reference := o.tag
        setpoint := o.setpoint, phaseNo := 1, phaseState := .waiting, retriesUsed := 0, deadline := deadline
        heldConverter := none, heldWaterway := none, lastLanding := m, cut := none }
    s.startAttempt u =
      ((({ s with orders := [] } : State).updUnit u fun x => { x with transition := some record }).sendStatus o.tag
        .started .none (unitByte u) (modeCode o.mode) o.origin).phaseStart u 1) ∧
  (∀ (u : UnitNo) (s : State),
    let record : Claim → Mode → Fin 32 → Transition := fun c m r =>
      { unit := u, route := r, origin := m, target := c.mode, source := c.origin, reference := c.tag
        setpoint := c.setpoint, phaseNo := 1, phaseState := .waiting, retriesUsed := 0, deadline := s.now
        heldConverter := none, heldWaterway := none, lastLanding := m, cut := none }
    let status : Claim → Status → Reason → State → State := fun c st r t =>
      t.sendStatus c.tag st r (unitByte u) (modeCode c.mode) c.origin
    let atRest : Mode → Prop := fun m =>
      u.val < s.plan.station.unitCount.toNat ∧ (s.unit u).mode = .settled m ∧ (s.unit u).silent = false ∧
        (s.unit u).transition = none
    let candidate : Order → Prop := fun o => o.target = .unit u ∨ s.selectUnit o = some u
    let takes : Claim → (State → State) → Prop := fun c leave => ∀ m, atRest m →
      (c.mode = m →
        let commanded :=
          if (m = .gen ∨ m = .pmp) ∧ (s.unit u).lastSetpoint ≠ c.setpoint then
            (s.sendUnitCommand u s.plan.station.setpointCommand c.setpoint 0xFF 0 0).updUnit u fun x =>
              { x with lastSetpoint := c.setpoint }
          else s
        s.startAttempt u = (status c .done .none (leave commanded)).startAttempt u) ∧
      (c.mode ≠ m →
        (s.lookupRoute u m c.mode = none →
          s.startAttempt u = (status c .failed .noRoute (leave s)).startAttempt u) ∧
        (∀ r, s.lookupRoute u m c.mode = some r →
          s.startAttempt u =
            ((status c .started .none ((leave s).updUnit u fun x =>
              { x with transition := some (record c m r) })).phaseStart u 1).poolPass))
    (∀ c, (s.unit u).reserveClaim = some c →
      takes { origin := .reserve, tag := natHalf (lineNumber c.line), mode := c.target, setpoint := c.setpoint } fun t =>
        t.updUnit u fun x => { x with reserveClaim := none }) ∧
    (∀ k o, s.orders[k]? = some o → (s.unit u).reserveClaim = none → candidate o →
      (∀ j q, s.orders[j]? = some q → candidate q →
        rank q.origin < rank o.origin ∨ (rank q.origin = rank o.origin ∧ k ≤ j)) →
      takes { origin := o.origin, tag := o.tag, mode := o.mode, setpoint := o.setpoint } fun t =>
        { t with orders := t.orders.eraseIdx k }) ∧
    ((∀ m, ¬ atRest m) ∨ ((s.unit u).reserveClaim = none ∧ ∀ o ∈ s.orders, ¬ candidate o) →
      s.startAttempt u = s.poolPass)) ∧
  (∀ s : State,
    ((∀ o ∈ s.orders, s.selectUnit o = none) → s.poolPass = s) ∧
    (∀ (o q : Order) (k j : Fin 4) (u : UnitNo), s.orders = [o, q] → o.target = .pool k → q.target = .pool j →
      o.origin = q.origin → s.selectUnit o = some u →
      let started : Order → UnitNo → State → State := fun o u t =>
        match (t.unit u).mode with
        | .settled m =>
          match t.lookupRoute u m o.mode with
          | some r =>
            (((({ t with orders := t.orders.tail } : State).updUnit u fun x =>
              { x with
                transition := some
                  { unit := u, route := r, origin := m, target := o.mode, source := o.origin, reference := o.tag
                    setpoint := o.setpoint, phaseNo := 1, phaseState := .waiting, retriesUsed := 0, deadline := t.now
                    heldConverter := none, heldWaterway := none, lastLanding := m
                    cut := none } }).sendStatus o.tag .started .none (unitByte u)
              (modeCode o.mode) o.origin).phaseStart u 1)
          | none => t
        | _ => t
      let first := started o u s
      s.poolPass =
        match first.selectUnit q with
        | some v => started q v first
        | none => first))

/-- R54, R55: an accepted order that asks the mode its unit is in ends DONE at once, with the setpoint command where GEN
or PMP needs it; one with no route ends FAILED with NO_ROUTE. -/
def Obligations.AcceptedOrderEndsAtOnce : Prop :=
  ∀ (src : Byte) (ident tag : Half) (u : UnitNo) (m n : Mode) (setpoint validity : Half) (s : State),
    s.plantPort.link = true → s.dispatcher = .directed → setpoint.toNat ≤ 4000 → s.orders = [] →
    u.val < s.plan.station.unitCount.toNat → (s.unit u).mode = .settled m → (s.unit u).silent = false →
    (s.unit u).transition = none → (s.unit u).reserveClaim = none →
    let i := Instr.dispatchOrder src ident tag (orderPayload 0 (unitByte u) (modeCode n) setpoint validity)
    let accepted := ({ s.heard .plant src with ageCount := s.ageCount + 1 } : State).sendStatus tag .accepted .none
      (unitByte u) (modeCode n) .dispatch
    (m = n →
      ((n = .gen ∨ n = .pmp) ∧ (s.unit u).lastSetpoint ≠ setpoint → exec i s =
        .next (((accepted.sendUnitCommand u s.plan.station.setpointCommand setpoint 0xFF 0 0).updUnit u fun x =>
          { x with lastSetpoint := setpoint }).sendStatus tag .done .none (unitByte u) (modeCode n) .dispatch)) ∧
      ((n ≠ .gen ∧ n ≠ .pmp) ∨ (s.unit u).lastSetpoint = setpoint → exec i s =
        .next (accepted.sendStatus tag .done .none (unitByte u) (modeCode n) .dispatch))) ∧
    (m ≠ n → s.lookupRoute u m n = none → exec i s =
      .next (accepted.sendStatus tag .failed .noRoute (unitByte u) (modeCode n) .dispatch))

/-- R50, R77 to R79: an order accepted for a moving unit waits below a reserve transition, merges into a transition to
its own mode, and marks a RUNNING transition to another mode as cut-pending. R80: a
WAITING transition to another mode is cut at once, and a start attempt follows. R78, R94: a merge into a WAITING
transition of another rank moves its wait-list entry by the new rank. -/
def Obligations.OrderIsOfferedToTheTransition : Prop :=
  ∀ (src : Byte) (ident tag : Half) (u : UnitNo) (m n : Mode) (x : Transition) (setpoint validity : Half) (s : State),
    s.plantPort.link = true → s.dispatcher = .directed → setpoint.toNat ≤ 4000 →
    (∀ o ∈ s.orders, o.target ≠ .unit u) → s.orders.length < 16 → u.val < s.plan.station.unitCount.toNat →
    (s.unit u).mode = .settled m → (s.unit u).transition = some x → (s.unit u).reserveClaim = none →
    let i := Instr.dispatchOrder src ident tag (orderPayload 0 (unitByte u) (modeCode n) setpoint validity)
    let record : Order :=
      { tag := tag, origin := .dispatch, target := .unit u, mode := n, setpoint := setpoint
        expiry := if validity = 0 then none else some (s.now + 1000 * validity.toNat), age := s.ageCount }
    let s0 := { s.heard .plant src with ageCount := s.ageCount + 1 }
    let accepted : State → State := fun t => t.sendStatus tag .accepted .none (unitByte u) (modeCode n) .dispatch
    let queued := accepted { s0 with orders := s.orders ++ [record] }
    (x.source = .reserve → exec i s = .next queued) ∧
    (x.source ≠ .reserve →
      (x.target ≠ n → x.phaseState = .running → exec i s =
        .next (queued.updUnit u fun r =>
          { r with transition := some { x with cut := some { origin := .dispatch, tag := tag } } })) ∧
      (x.target ≠ n → x.phaseState = .waiting → exec i s =
        .next ((queued.endTransition u .cut .none false).startAttempt u)) ∧
      (x.target = n →
        let merged := (((accepted s0).sendStatus x.reference .superseded .none (unitByte u) (modeCode x.target)
          x.source).updUnit u fun r =>
            { r with
              transition := some { x with source := .dispatch, reference := tag, setpoint := setpoint } }).sendStatus tag
                .started .none (unitByte u) (modeCode n) .dispatch
        (x.phaseState = .running ∨ x.source = .dispatch → exec i s = .next merged) ∧
        (x.phaseState = .waiting → x.source = .schedule → exec i s = .next (merged.rerankEntry u 2))))

/-- R44, R124: an order that passes check 1 in AUTONOMOUS brings the dispatcher back to DIRECTED, starts the master
silence timer, withdraws the queued SCHEDULE orders and sends ALERT MASTER_SILENT before check 3; with nothing
queued those are its only effects before the checks of DIRECTED. -/
def Obligations.OrderReturnsTheDispatcherToDirected : Prop :=
  ∀ (src : Byte) (ident tag : Half) (targetType target mode : Byte) (setpoint validity : Half) (s : State),
    s.plantPort.link = true → s.dispatcher = .autonomous → targetType.toNat ≤ 1 → setpoint.toNat ≤ 4000 →
    let i := Instr.dispatchOrder src ident tag (orderPayload targetType target mode setpoint validity)
    (∃ t : State, exec i s = .next t ∧ t.dispatcher = .directed ∧ (∀ o ∈ t.orders, o.origin ≠ .schedule) ∧
      t.masterDeadline =
        (if s.plan.station.masterSilence = 0 then none else some (s.now + 100 * s.plan.station.masterSilence.toNat)) ∧
      t.masterSilenceSeen = s.masterSilenceSeen ∧ t.program = s.program) ∧
    (s.orders = [] → targetType = 0 → s.plan.station.unitCount.toNat ≤ target.toNat →
      exec i s =
        .next ((({ s.heard .plant src with
            dispatcher := .directed
            masterDeadline :=
              if s.plan.station.masterSilence = 0 then none
              else some (s.now + 100 * s.plan.station.masterSilence.toNat) } : State).sendAlert .masterSilent 0
            0).sendStatus tag .refused .noSuchUnit target mode .dispatch))

/-- R58: a queued order expires once its EXPIRY is reached (log 2): a pool order leaves with EXPIRED, and so does an
order for a unit that cannot start anything, with its CUT cleared; no order at the position, or none due, changes
nothing. -/
def Obligations.QueuedOrderExpires : Prop :=
  ∀ (k : Fin 16) (s : State),
    (s.orders[k.val]? = none → exec (.orderExpiry k) s = .next s) ∧
    (∀ o, s.orders[k.val]? = some o →
      ((∀ d, o.expiry = some d → s.now < d) → exec (.orderExpiry k) s = .next s) ∧
      (∀ d, o.expiry = some d → d ≤ s.now →
        (∀ p, o.target = .pool p → exec (.orderExpiry k) s =
          .next (({ s with orders := s.orders.eraseIdx k.val } : State).sendStatus o.tag .expired .none 0xFF
            (modeCode o.mode) o.origin)) ∧
        (∀ u x, o.target = .unit u → (s.unit u).transition = some x → (∀ q ∈ s.orders, ∃ v, q.target = .unit v) →
          exec (.orderExpiry k) s =
            .next ((({ s with orders := s.orders.eraseIdx k.val } : State).updUnit u fun r =>
              { r with
                transition := some
                  { x with cut := if x.cut = some { origin := o.origin, tag := o.tag } then none else x.cut } }).sendStatus
              o.tag .expired .none (unitByte u) (modeCode o.mode) o.origin)) ∧
        (∀ u, o.target = .unit u → (s.unit u).transition = none → (∀ m, (s.unit u).mode ≠ .settled m) →
          (∀ q ∈ s.orders, ∃ v, q.target = .unit v) → exec (.orderExpiry k) s =
            .next (({ s with orders := s.orders.eraseIdx k.val } : State).sendStatus o.tag .expired .none (unitByte u)
              (modeCode o.mode) o.origin))))

/-! ## Transitions and resources (chapters 4 and 5) -/

/-- R74: a phase deadline that expires with a retry left sends the phase command again, as the transition stands, with
its alert and duty event; before the deadline nothing changes (log 2). R75, R86: a phase deadline that expires with
all retries used aborts the unit, which becomes UNKNOWN, and ends its transition. For a transition that holds
nothing, with no telegram held and no claim waiting, the effects are exactly those of the rules, in their order.
R70, R86: a wait deadline that expires ends the WAITING transition with RESOURCE_WAIT; the unit's MODE stays and
nothing is sent to it. Before the deadline nothing changes (log 2). Whatever the transition holds, with no claim waiting, the two are
the end of the transition that R86 gives (see ReportCompletesTheRunningPhase). -/
def Obligations.DeadlinesOfATransition : Prop :=
  (∀ (u : UnitNo) (x : Transition) (s : State), (s.unit u).transition = some x →
    (x.phaseState = .waiting ∨ s.now < x.deadline → exec (.phaseDeadlineExpiry u) s = .next s) ∧
    (x.phaseState = .running → x.deadline ≤ s.now →
      let p := s.phaseAt x.route x.phaseNo
      let converter := match x.heldConverter with
        | some c => natByte c.val
        | none => 0xFF
      x.retriesUsed < p.retries →
      exec (.phaseDeadlineExpiry u) s =
        .next ((((s.sendUnitCommand u p.command (if p.sendSetpoint then x.setpoint else 0) converter
          (natByte x.route.val) (natByte x.phaseNo)).updUnit u fun r =>
            { r with
              lastSetpoint := if p.sendSetpoint then x.setpoint else r.lastSetpoint
              transition := some
                { x with retriesUsed := x.retriesUsed + 1, deadline := s.now + 100 * p.timeLimit.toNat } }).sendAlert
          .phaseOverrun (unitByte u) (natHalf (x.phaseNo * 256 + (x.retriesUsed + 1)))).dutyEvent .phaseOverruns u))) ∧
  (∀ (u : UnitNo) (m : Mode) (x : Transition) (s : State), (s.unit u).mode = .settled m →
    (s.unit u).transition = some x → x.phaseState = .running → x.deadline ≤ s.now →
    (s.phaseAt x.route x.phaseNo).retries ≤ x.retriesUsed →
    (∃ t : State, exec (.phaseDeadlineExpiry u) s = .next t ∧ (t.unit u).mode = .unknown ∧ (t.unit u).transition = none) ∧
    (s.orders = [] → (s.unit u).reserveClaim = none → s.dispatcher ≠ .draining →
      exec (.phaseDeadlineExpiry u) s =
        .next (((((s.sendUnitCommand u s.plan.station.abortCommand 0 0xFF 0 0).updUnit u fun r =>
          { r with mode := .unknown }).sendAlert .phaseOverrun (unitByte u) (natHalf (x.phaseNo * 256))).dutyEvent
          .phaseOverruns u).endTransition u .failed .phaseTimeout false)) ∧
    (s.orders = [] → (s.unit u).reserveClaim = none → (s.unit u).holdQueue = [] → x.heldConverter = none →
      x.heldWaterway = none → s.dispatcher ≠ .draining →
      exec (.phaseDeadlineExpiry u) s =
        .next (((((((s.sendUnitCommand u s.plan.station.abortCommand 0 0xFF 0 0).updUnit u fun r =>
          { r with mode := .unknown }).sendAlert .phaseOverrun (unitByte u) (natHalf (x.phaseNo * 256))).dutyEvent
          .phaseOverruns u).withdrawEntry u).sendStatus x.reference .failed .phaseTimeout (unitByte u)
          (modeCode x.target) x.source).dutyEvent .transitionsFailed u |>.updUnit u fun r =>
            { r with transition := none }))) ∧
  (∀ (u : UnitNo) (x : Transition) (s : State), (s.unit u).transition = some x →
    (x.phaseState = .running ∨ s.now < x.deadline → exec (.waitDeadlineExpiry u) s = .next s) ∧
    (x.phaseState = .waiting → x.deadline ≤ s.now →
      (∃ t : State, exec (.waitDeadlineExpiry u) s = .next t ∧ (t.unit u).mode = (s.unit u).mode) ∧
      (s.orders = [] → (s.unit u).reserveClaim = none → s.dispatcher ≠ .draining →
        exec (.waitDeadlineExpiry u) s = .next (s.endTransition u .failed .resourceWait false)) ∧
      (s.orders = [] → (s.unit u).reserveClaim = none → (s.unit u).holdQueue = [] → x.heldConverter = none →
        x.heldWaterway = none → s.dispatcher ≠ .draining →
        exec (.waitDeadlineExpiry u) s =
          .next ((((s.withdrawEntry u).sendStatus x.reference .failed .resourceWait (unitByte u) (modeCode x.target)
            x.source).dutyEvent .transitionsFailed u).updUnit u fun r => { r with transition := none }))))

/-- R89: a new wait-list entry is placed behind every entry of equal or higher rank and ahead of every entry of lower
rank. Entries made later have higher serials (log 13). R90: a request for a converter is granted the lowest-numbered
FREE converter in service, else enters the wait list. R91, R68, R69: a converter grant to a waiting phase that asks
for no window: the entry leaves the list, the converter is GRANTED, CONNECT is sent, the grant is counted, and the
phase becomes RUNNING with its command sent behind the CONNECT. R96, R69: a request for a window that is FREE with
ALARM clear is granted at once and runs the phase; any other request waits. R93, R94: a withdrawal takes the unit's
entry out of every list and changes nothing else; a change of rank moves the entry to its place by the new rank. R68,
R91, R34: a converter grant to a phase that also claims a window it does not hold sends the CONNECT and is counted,
and the transition, still WAITING under its wait deadline, asks for the window; while that waits, it stays so. R96,
R98, R69: every window grant, to a request or to the head of a wait list. -/
def Obligations.ResourceRequestsAreGrantedOrWait : Prop :=
  (∀ (e : WaitEntry) (l : List WaitEntry), (∀ x ∈ l, x.serial < e.serial) → l.Pairwise (fun a b => b.rank ≤ a.rank) →
    placeEntry e l = (l.filter fun x => decide (e.rank ≤ x.rank)) ++ e :: l.filter fun x => decide (x.rank < e.rank)) ∧
  (∀ (u : UnitNo) (x : Transition) (s : State), (s.unit u).transition = some x →
    (∀ c : ConverterNo, c.val < s.plan.station.converterCount.toNat → s.converter c = none →
      (∀ d, d < c → s.converter d ≠ none) → s.requestConverter u = s.grantConverter c u) ∧
    ((∀ c : ConverterNo, c.val < s.plan.station.converterCount.toNat → s.converter c ≠ none) →
      s.requestConverter u =
        { s with
          converterWait :=
            placeEntry { unit := u, rank := rank x.source, requestTime := s.now, serial := s.requestSerial }
              s.converterWait
          requestSerial := s.requestSerial + 1 })) ∧
  (∀ (c : ConverterNo) (u : UnitNo) (x : Transition) (s : State), (s.unit u).transition = some x →
    let p := s.phaseAt x.route x.phaseNo
    p.claim.hasWaterway = false ∨ x.heldWaterway ≠ none →
    s.grantConverter c u =
      ((((({ s with converterWait := s.converterWait.filter fun e => e.unit ≠ u } : State).setConverter c
        (some u)).originate .unit (converterAssignTelegram c u 1)).dutyEvent .converterGrants u).sendUnitCommand u
        p.command (if p.sendSetpoint then x.setpoint else 0) (natByte c.val) (natByte x.route.val)
        (natByte x.phaseNo)).updUnit u fun r =>
          { r with
            lastSetpoint := if p.sendSetpoint then x.setpoint else r.lastSetpoint
            transition := some
              { x with
                heldConverter := some c, phaseState := .running, deadline := s.now + 100 * p.timeLimit.toNat } }) ∧
  (∀ (u : UnitNo) (x : Transition) (s : State), (s.unit u).transition = some x →
    let w := s.plan.unitEntries[u.val].waterway
    let p := s.phaseAt x.route x.phaseNo
    let converter := match x.heldConverter with
      | some c => natByte c.val
      | none => 0xFF
    ((s.waterway w).window = .free → (s.waterway w).alarm = false → s.requestWindow u =
      ((((s.updWaterway w fun y => { y with wait := y.wait.filter fun e => e.unit ≠ u, window := .held u }).dutyEvent
        .waterwayGrants u).sendUnitCommand u p.command (if p.sendSetpoint then x.setpoint else 0) converter
        (natByte x.route.val) (natByte x.phaseNo)).updUnit u fun r =>
          { r with
            lastSetpoint := if p.sendSetpoint then x.setpoint else r.lastSetpoint
            transition := some
              { x with
                heldWaterway := some w, phaseState := .running, deadline := s.now + 100 * p.timeLimit.toNat } })) ∧
    ((s.waterway w).window ≠ .free ∨ (s.waterway w).alarm = true → s.requestWindow u =
      { (s.updWaterway w fun y =>
          { y with
            wait :=
              placeEntry { unit := u, rank := rank x.source, requestTime := s.now, serial := s.requestSerial } y.wait }) with
        requestSerial := s.requestSerial + 1 })) ∧
  (∀ (u : UnitNo) (s : State), ∃ t : State, s.withdrawEntry u = t ∧
    t = { s with converterWait := s.converterWait.filter fun e => e.unit ≠ u, waterways := t.waterways } ∧
    ∀ w : WaterwayNo, t.waterway w = { s.waterway w with wait := (s.waterway w).wait.filter fun e => e.unit ≠ u }) ∧
  (∀ (u : UnitNo) (k : Nat) (s : State), ∃ (t : State) (moved : List WaitEntry → List WaitEntry),
    s.rerankEntry u k = t ∧
    t = { s with converterWait := moved s.converterWait, waterways := t.waterways } ∧
    (∀ w : WaterwayNo, t.waterway w = { s.waterway w with wait := moved (s.waterway w).wait }) ∧
    (∀ l : List WaitEntry, (∀ e ∈ l, e.unit ≠ u) → moved l = l) ∧
    ∀ (e : WaitEntry) (before behind : List WaitEntry), e.unit = u → (∀ x ∈ before ++ behind, x.unit ≠ u) →
      moved (before ++ e :: behind) = placeEntry { e with rank := k } (before ++ behind)) ∧
  (∀ (e : WaitEntry) (l : List WaitEntry),
    l.Pairwise (fun a b => b.rank < a.rank ∨ (b.rank = a.rank ∧ a.serial < b.serial)) →
    placeEntry e l =
      (l.filter fun x => decide (e.rank < x.rank ∨ (e.rank = x.rank ∧ x.serial ≤ e.serial))) ++
        e :: l.filter fun x => decide (x.rank < e.rank ∨ (x.rank = e.rank ∧ e.serial < x.serial))) ∧
  (∀ (c : ConverterNo) (u : UnitNo) (x : Transition) (s : State), (s.unit u).transition = some x →
    let p := s.phaseAt x.route x.phaseNo
    let w := s.plan.unitEntries[u.val].waterway
    p.claim = .waterway ∨ p.claim = .both → x.heldWaterway = none →
    let connected :=
      (((({ s with converterWait := s.converterWait.filter fun e => e.unit ≠ u } : State).setConverter c
        (some u)).originate .unit (converterAssignTelegram c u 1)).dutyEvent .converterGrants u).updUnit u fun r =>
          { r with transition := some { x with heldConverter := some c } }
    s.grantConverter c u = connected.requestWindow u ∧
    ((s.waterway w).window ≠ .free ∨ (s.waterway w).alarm = true →
      ((s.grantConverter c u).unit u).transition = some { x with heldConverter := some c })) ∧
  (∀ (w : WaterwayNo) (u : UnitNo) (x : Transition) (s : State), (s.unit u).transition = some x →
    let p := s.phaseAt x.route x.phaseNo
    let converter := match x.heldConverter with
      | some c => natByte c.val
      | none => 0xFF
    s.grantWindow w u =
      ((((s.updWaterway w fun y => { y with wait := y.wait.filter fun e => e.unit ≠ u, window := .held u }).dutyEvent
        .waterwayGrants u).sendUnitCommand u p.command (if p.sendSetpoint then x.setpoint else 0) converter
        (natByte x.route.val) (natByte x.phaseNo)).updUnit u fun r =>
          { r with
            lastSetpoint := if p.sendSetpoint then x.setpoint else r.lastSetpoint
            transition := some
              { x with
                heldWaterway := some w, phaseState := .running, deadline := s.now + 100 * p.timeLimit.toNat } }))

/-- R92: a released converter is FREE, RELEASE is sent for it, and it is granted to the head of the wait list, if any.
R97: a released window starts its settle time; with settle time 0 it is FREE at once and goes to the head, if ALARM
is clear and an entry waits. R98: when the settle deadline is reached (log 2) the window becomes FREE and goes to
the head of its list if ALARM is clear; before, nothing changes. A transition that holds no converter, or no window, has
none to release. -/
def Obligations.ReleasedResourcesGoToTheHead : Prop :=
  (∀ (u : UnitNo) (x : Transition) (c : ConverterNo) (s : State), (s.unit u).transition = some x →
    x.heldConverter = some c →
    let freed := ((s.updUnit u fun r => { r with transition := some { x with heldConverter := none } }).setConverter c
      none).originate .unit (converterAssignTelegram c u 2)
    (s.converterWait = [] → s.releaseConverter u = freed) ∧
    (∀ e rest, s.converterWait = e :: rest → s.releaseConverter u = freed.grantConverter c e.unit)) ∧
  (∀ (u : UnitNo) (x : Transition) (w : WaterwayNo) (s : State), (s.unit u).transition = some x →
    x.heldWaterway = some w →
    let settle := s.plan.waterwayEntries[w.val].settleTime
    let given := s.updUnit u fun r => { r with transition := some { x with heldWaterway := none } }
    (settle ≠ 0 → s.releaseWindow u =
      given.updWaterway w fun y => { y with window := .settling (s.now + 1000 * settle.toNat) }) ∧
    (settle = 0 →
      ((s.waterway w).wait = [] ∨ (s.waterway w).alarm = true → s.releaseWindow u =
        given.updWaterway w fun y => { y with window := .free }) ∧
      (∀ e rest, (s.waterway w).wait = e :: rest → (s.waterway w).alarm = false → s.releaseWindow u =
        (given.updWaterway w fun y => { y with window := .free }).grantWindow w e.unit))) ∧
  (∀ (w : WaterwayNo) (s : State),
    ((∀ d, (s.waterway w).window = .settling d → s.now < d) → exec (.settleDeadlineReached w) s = .next s) ∧
    (∀ d, (s.waterway w).window = .settling d → d ≤ s.now →
      ((s.waterway w).wait = [] ∨ (s.waterway w).alarm = true → exec (.settleDeadlineReached w) s =
        .next (s.updWaterway w fun y => { y with window := .free })) ∧
      (∀ e rest, (s.waterway w).wait = e :: rest → (s.waterway w).alarm = false →
        exec (.settleDeadlineReached w) s =
          .next ((s.updWaterway w fun y => { y with window := .free }).grantWindow w e.unit) ∧
        ∃ t : State, exec (.settleDeadlineReached w) s = .next t ∧ (t.waterway w).window = .held e.unit ∧
          (t.waterway w).wait = (rest.filter fun y => y.unit ≠ e.unit) ∧
          ∀ x, (s.unit e.unit).transition = some x → ∃ y, (t.unit e.unit).transition = some y ∧
            y.heldWaterway = some w ∧ y.phaseState = .running))) ∧
  (∀ (u : UnitNo) (s : State),
    ((∀ x, (s.unit u).transition = some x → x.heldConverter = none) → s.releaseConverter u = s) ∧
    ((∀ x, (s.unit u).transition = some x → x.heldWaterway = none) → s.releaseWindow u = s))

/-- R99, R136: what a WATERWAY REPORT does, by ALARM and its ALARM byte; it is forwarded last. One with another LEN, or
from no waterway in service, is forwarded without being read. -/
def Obligations.WaterwayReportSetsOrClearsAlarm : Prop :=
  ∀ (dst src : Byte) (ident tag : Half) (payload : List Byte) (s : State), s.Receives .unit →
    payload.length ≤ 64 →
    let forwarded : State → Host.Outcome State Fault Refusal := fun t =>
      .next (t.forwardTo .plant (waterwayReportTelegram dst src ident tag payload))
    let i := Instr.waterwayReport dst src ident tag payload
    (payload.length ≠ 3 ∨ (∀ w : WaterwayNo, src.toNat ≠ 0x1A + w.val ∨ s.plan.station.waterwayCount.toNat ≤ w.val) →
      exec i s = forwarded (s.heard .unit src)) ∧
    (∀ (w : WaterwayNo) (alarm : Byte) (level : Half), src.toNat = 0x1A + w.val →
      w.val < s.plan.station.waterwayCount.toNat → payload = [alarm] ++ halfBytes level →
      let read := (s.heard .unit src).updWaterway w fun y =>
        { y with
          silenceDeadline := some (s.now + 100 * s.plan.waterwayEntries[w.val].waterwaySilence.toNat)
          lastLevel := some level }
      let cleared := (read.updWaterway w fun y => { y with alarm := false }).sendAlert .waterwayAlarm (natByte w.val) 0
      ((s.waterway w).alarm = false → alarm = 0 → exec i s = forwarded read) ∧
      ((s.waterway w).alarm = false → alarm ≠ 0 → exec i s =
        forwarded ((read.updWaterway w fun y => { y with alarm := true, alarmSeen := true }).sendAlert .waterwayAlarm
          (natByte w.val) 1)) ∧
      ((s.waterway w).alarm = true → alarm ≠ 0 → exec i s = forwarded read) ∧
      ((s.waterway w).alarm = true → alarm = 0 →
        ((s.waterway w).window ≠ .free ∨ (s.waterway w).wait = [] → exec i s = forwarded cleared) ∧
        (∀ e rest, (s.waterway w).window = .free → (s.waterway w).wait = e :: rest →
          exec i s = forwarded (cleared.grantWindow w e.unit))))

/-! ## Reserve lines (chapter 6) -/

/-- R112: when an assertion of a line forms a claim for a unit, and which. -/
def Obligations.ReserveClaimFormation : Prop :=
  ∀ (line : ReserveLine) (u : UnitNo) (c : ReserveClaim) (s : State),
    let e := s.plan.reserve[8 * lineNumber line + u.val]?
    s.claimFor line u = some c ↔
      u.val < s.plan.station.unitCount.toNat ∧ (s.unit u).silent = false ∧ c.line = line ∧
      ∃ entry m effective, e = some entry ∧ (s.unit u).mode = .settled m ∧
        effective = (match (s.unit u).transition with
          | some x => x.target
          | none => m) ∧
        entry.target = some c.target ∧ c.setpoint = entry.setpoint ∧
        entry.apply.getLsbD (modeCode effective).toNat = true ∧ effective ≠ c.target

/-- R107, R111, R113: an assertion event sets RESERVE_SEEN; in UNPLANNED it is ignored with its alert, and in the
other states ALERT RESERVE counts the claims, here none. A line whose level is already asserted makes no event. R112,
R113, R79, R55: an assertion event outside UNPLANNED that claims one unit: a RUNNING transition becomes cut-pending
under the pending claim, and a unit at rest starts its claim's transition on its route. In these cases no order or
claim waited before. R112, R113, R80, whatever waits and however many units are claimed: the claims are formed in unit
order, the alert counts them, then each acts in unit order, and the end of a drain comes last (log 14). Forming a
claim ends an earlier pending claim and then a queued order for the unit, each SUPERSEDED with the CUT that names it
cleared. The claim cuts a WAITING transition at once, and its start attempt follows. R107: a release changes the
line's debounced level and nothing else. -/
def Obligations.AssertionEventActsOnItsClaims : Prop :=
  (∀ (line : ReserveLine) (s : State), s.DispatcherStateSound →
    let lined : State := { s with lines := match line with
      | .a => { s.lines with reserveA := true }
      | .b => { s.lines with reserveB := true } }
    ((s.reserveLine line).level = true → exec (.assertionEvent line) s =
      .next (lined.updReserveLine line fun x => { x with debounce := none })) ∧
    ((s.reserveLine line).level = false →
      let seen := lined.updReserveLine line fun _ => { level := true, seen := true, debounce := none }
      (s.dispatcher = .unplanned → exec (.assertionEvent line) s =
        .next (seen.sendAlert .reserveIgnored (natByte (lineNumber line)) 0)) ∧
      (s.dispatcher ≠ .unplanned → (∀ u, s.claimFor line u = none) → exec (.assertionEvent line) s =
        .next (seen.sendAlert .reserve (natByte (lineNumber line)) 0)))) ∧
  (∀ (line : ReserveLine) (u : UnitNo) (m : Mode) (c : ReserveClaim) (s : State), s.dispatcher ≠ .unplanned →
    (s.reserveLine line).level = false → s.orders = [] → (s.unit u).reserveClaim = none →
    (s.unit u).mode = .settled m → s.claimFor line u = some c → (∀ v, v ≠ u → s.claimFor line v = none) →
    let lined : State := { s with lines := match line with
      | .a => { s.lines with reserveA := true }
      | .b => { s.lines with reserveB := true } }
    let alerted := (lined.updReserveLine line fun _ => { level := true, seen := true, debounce := none }).sendAlert
      .reserve (natByte (lineNumber line)) 1
    let number := natHalf (lineNumber line)
    (∀ x, (s.unit u).transition = some x → x.phaseState = .running → exec (.assertionEvent line) s =
      .next (alerted.updUnit u fun r =>
        { r with
          reserveClaim := some c
          transition := some { x with cut := some { origin := .reserve, tag := number } } })) ∧
    (∀ r : Fin 32, (s.unit u).transition = none → s.lookupRoute u m c.target = some r →
      let p := s.plan.phases[s.plan.routes[r.val].firstPhase.val]
      p.claim = .none →
      exec (.assertionEvent line) s =
        .next (((alerted.sendStatus number .started .none (unitByte u) (modeCode c.target) .reserve).sendUnitCommand u
          p.command (if p.sendSetpoint then c.setpoint else 0) 0xFF (natByte r.val) 1).updUnit u fun y =>
            { y with
              lastSetpoint := if p.sendSetpoint then c.setpoint else y.lastSetpoint
              transition := some
                { unit := u, route := r, origin := m, target := c.target, source := .reserve, reference := number
                  setpoint := c.setpoint, phaseNo := 1, phaseState := .running, retriesUsed := 0
                  deadline := s.now + 100 * p.timeLimit.toNat, heldConverter := none, heldWaterway := none
                  lastLanding := m, cut := none } }))) ∧
  (∀ (line : ReserveLine) (s : State),
    let lined : State := { s with lines := match line with
      | .a => { s.lines with reserveA := false }
      | .b => { s.lines with reserveB := false } }
    exec (.reserveRelease line) s =
      .next (lined.updReserveLine line fun x => { x with level := false, debounce := none })) ∧
  (∀ (line : ReserveLine) (s : State), s.dispatcher ≠ .unplanned → (s.reserveLine line).level = false →
    let lined : State := { s with lines := match line with
      | .a => { s.lines with reserveA := true }
      | .b => { s.lines with reserveB := true } }
    let seen := lined.updReserveLine line fun _ => { level := true, seen := true, debounce := none }
    let claimed := unitNumbers.filterMap fun u => (s.claimFor line u).map fun c => (u, c)
    let alerted := (claimed.foldl (fun t uc => t.formClaim uc.1 uc.2) seen).sendAlert .reserve (natByte (lineNumber line))
      (natHalf claimed.length)
    exec (.assertionEvent line) s = .next (claimed.foldl (fun t uc => t.actOn uc.1 uc.2.claim) alerted).drainCheck) ∧
  (∀ (u : UnitNo) (c : ReserveClaim) (s : State),
    let uncut : Origin → Half → State → State := fun origin tag t => t.updUnit u fun r =>
      { r with
        transition := r.transition.map fun x =>
          if x.cut = some { origin := origin, tag := tag } then { x with cut := none } else x }
    let freed := match (s.unit u).reserveClaim with
      | some old =>
        let number := natHalf (lineNumber old.line)
        (uncut .reserve number (s.updUnit u fun r => { r with reserveClaim := none })).sendStatus number .superseded .none
          (unitByte u) (modeCode old.target) .reserve
      | none => s
    let formed : State → Prop := fun t => s.formClaim u c = t.updUnit u fun r => { r with reserveClaim := some c }
    ((∀ o ∈ s.orders, o.target ≠ .unit u) → formed freed) ∧
    (∀ o, s.orders.filter (fun q => decide (q.target = .unit u)) = [o] →
      formed ((uncut o.origin o.tag
        { freed with orders := s.orders.filter fun q => decide (q.target ≠ .unit u) }).sendStatus o.tag .superseded .none
        (unitByte u) (modeCode o.mode) o.origin))) ∧
  (∀ (u : UnitNo) (c : ReserveClaim) (s : State),
    ((s.unit u).transition = none → s.actOn u c.claim = s.startAttempt u) ∧
    (∀ x, (s.unit u).transition = some x → c.target ≠ x.target →
      (x.phaseState = .running → s.actOn u c.claim = s.updUnit u fun r =>
        { r with
          transition := some { x with cut := some { origin := .reserve, tag := natHalf (lineNumber c.line) } } }) ∧
      (x.phaseState = .waiting → s.actOn u c.claim = (s.endTransition u .cut .none false).startAttempt u)))

/-! ## Dispatcher states and the schedule program (chapter 7) -/

/-- R123: the master silence timer that expires in DIRECTED makes the dispatcher AUTONOMOUS and withdraws the queued
DISPATCH orders; with none queued and the program STOPPED, only the alert and the latch go with it. It does nothing
before its deadline, or in another state. R123, R60, whatever is queued: each DISPATCH order leaves WITHDRAWN with its
CUT cleared, the start attempts of the units whose orders went follow in unit order, then the alert with the number
withdrawn, and with the program RUNNING the schedule claims of the current row's captured content. -/
def Obligations.MasterSilenceMakesTheDispatcherAutonomous : Prop :=
  ∀ s : State,
    (s.dispatcher ≠ .directed ∨ (∀ d, s.masterDeadline = some d → s.now < d) →
      exec .masterSilenceExpiry s = .next s) ∧
    (∀ d, s.dispatcher = .directed → s.masterDeadline = some d → d ≤ s.now →
      (∃ t : State, exec .masterSilenceExpiry s = .next t ∧ t.dispatcher = .autonomous ∧ t.masterSilenceSeen = true ∧
        t.masterDeadline = none ∧ t.program = s.program ∧ ∀ o ∈ t.orders, o.origin ≠ .dispatch) ∧
      (s.orders = [] → s.program.running = false → exec .masterSilenceExpiry s =
        .next (({ s with dispatcher := .autonomous, masterSilenceSeen := true, masterDeadline := none } : State).sendAlert
          .masterSilent 0 1)) ∧
      (let due : State := { s with dispatcher := .autonomous, masterSilenceSeen := true, masterDeadline := none }
        let gone := s.orders.filter fun o => decide (o.origin = .dispatch)
        let leave : State → Order → State := fun t o =>
          match o.target with
          | .unit u =>
            (t.updUnit u fun r =>
              { r with
                transition := r.transition.map fun x =>
                  if x.cut = some { origin := o.origin, tag := o.tag } then { x with cut := none }
                  else x }).sendStatus o.tag .withdrawn .masterSilent (unitByte u) (modeCode o.mode) .dispatch
          | .pool _ => t.sendStatus o.tag .withdrawn .masterSilent 0xFF (modeCode o.mode) .dispatch
        let withdrawn := gone.foldl leave
          { due with orders := s.orders.filter fun o => decide (o.origin ≠ .dispatch) }
        let attempted :=
          (unitNumbers.filter fun u => gone.any fun o => decide (o.target = .unit u)).foldl (fun t u => t.startAttempt u)
            withdrawn
        let alerted := attempted.sendAlert .masterSilent (natByte gone.length) 1
        (s.program.running = false ∨ s.program.captured = none → exec .masterSilenceExpiry s = .next alerted) ∧
        (∀ row, s.program.captured = some row → s.program.running = true → exec .masterSilenceExpiry s =
          .next (alerted.scheduleClaims s.program.currentRow row)) ∧
        (∀ row, s.program.captured = some row → s.program.running = true → s.orders = [] →
          exec .masterSilenceExpiry s =
            .next ((due.sendAlert .masterSilent 0 1).scheduleClaims s.program.currentRow row))))

/-- R131, R132: the row deadline that is reached while the program is RUNNING ends the row (log 2); the next row is captured
and timed, or the program stops. Outside AUTONOMOUS nothing else changes; in AUTONOMOUS the row that begins hands its
schedule claims. R48, R131: a row hands one claim for each unit in service whose entry is not KEEP, in unit order; each
is a unit-targeted SCHEDULE order with the row as its tag and no EXPIRY, taken through checks 5 to 8 as a DISPATCH
ORDER past check 4 is. -/
def Obligations.RowsEndAndHandTheirClaims : Prop :=
  (∀ s : State,
    (s.program.running = false ∨ (∀ d, s.program.rowDeadline = some d → s.now < d) →
      exec .rowDeadlineReached s = .next s) ∧
    (∀ d, s.program.running = true → s.program.rowDeadline = some d → d ≤ s.now →
      let begun : Run → Byte → Program := fun run r =>
        { running := true, run := run, currentRow := r
          rowDeadline := some (s.now + 60000 * (s.schedule[r.toNat]).duration.toNat)
          captured := some s.schedule[r.toNat], pendingRun := none }
      let isLast := (s.program.currentRow.toNat : Nat) =
        (s.program.run.start.toNat + s.program.run.length.toNat + 255) % 256
      let begins : Run → Byte → Prop := fun run r =>
        let timed : State := { s with program := begun run r }
        (s.dispatcher ≠ .autonomous → exec .rowDeadlineReached s = .next timed) ∧
        (s.dispatcher = .autonomous →
          exec .rowDeadlineReached s = .next (timed.scheduleClaims r s.schedule[r.toNat]))
      (∀ run, s.program.pendingRun = some run → begins run run.start) ∧
      (s.program.pendingRun = none →
        (¬ isLast → begins s.program.run (s.program.currentRow + 1)) ∧
        (isLast → s.program.run.loop = true → begins s.program.run s.program.run.start) ∧
        (isLast → s.program.run.loop = false → exec .rowDeadlineReached s =
          .next { s with program :=
            { s.program with running := false, rowDeadline := none, captured := none, pendingRun := none } })) ∧
      ∃ t : State, exec .rowDeadlineReached s = .next t ∧
        t.program =
          match s.program.pendingRun with
          | some run => begun run run.start
          | none =>
            if ¬ isLast then begun s.program.run (s.program.currentRow + 1)
            else if s.program.run.loop then begun s.program.run s.program.run.start
            else { s.program with running := false, rowDeadline := none, captured := none, pendingRun := none })) ∧
  (∀ (r : Byte) (row : Row) (s : State),
    (s.scheduleClaims r row =
      (unitNumbers.filter fun u => decide (u.val < s.plan.station.unitCount.toNat)).foldl
        (fun t u => match row.entries[u.val].mode with
          | some n =>
            t.queueOrder
              { claim := { origin := .schedule, tag := r.setWidth 16, mode := n, setpoint := row.entries[u.val].setpoint }
                target := .unit u, expiry := none }
          | none => t) s) ∧
    ((∀ u : UnitNo, u.val < s.plan.station.unitCount.toNat → row.entries[u.val].mode = none) →
      s.scheduleClaims r row = s) ∧
    (∀ (u : UnitNo) (n : Mode), u.val < s.plan.station.unitCount.toNat → row.entries[u.val].mode = some n →
      (∀ v : UnitNo, v ≠ u → row.entries[v.val].mode = none) →
      ((s.unit u).mode = .out ∨ (s.unit u).mode = .tripped → s.scheduleClaims r row =
        s.sendStatus (r.setWidth 16) .refused .unitUnavailable (unitByte u) (modeCode n) .schedule) ∧
      ((s.unit u).mode = .unknown → (s.unit u).transition = none → (s.unit u).reserveClaim = none → s.orders = [] →
        s.scheduleClaims r row =
          ({ s with
            orders :=
              [{ tag := r.setWidth 16, origin := .schedule, target := .unit u, mode := n,
                 setpoint := row.entries[u.val].setpoint, expiry := none, age := s.ageCount }]
            ageCount := s.ageCount + 1 } : State).sendStatus (r.setWidth 16) .accepted .none (unitByte u) (modeCode n)
            .schedule))) ∧
  (∀ (src : Byte) (ident tag : Half) (u : UnitNo) (n : Mode) (setpoint validity : Half) (s : State),
    s.plantPort.link = true → s.dispatcher = .directed → setpoint.toNat ≤ 4000 →
    u.val < s.plan.station.unitCount.toNat →
    exec (.dispatchOrder src ident tag (orderPayload 0 (unitByte u) (modeCode n) setpoint validity)) s =
      .next ((s.heard .plant src).queueOrder
        { claim := { origin := .dispatch, tag := tag, mode := n, setpoint := setpoint }, target := .unit u
          expiry := if validity = 0 then none else some (s.now + 1000 * validity.toNat) }))

/-! ## The Duty Monitor (chapter 11) -/

/-- R173, R175: an event increases by one, with wrap, every counter of the unit that counts it and can count, and no
other. R176: what an overflow does: the latches, the alert of NOTIFY, and the freeze of FREEZE_ON_OVERFLOW, in that
order. R175: the overflows of an event are acted on once every counter has been increased; several of one unit in
ascending counter number (log 26). R3, R173: a change of MODE is counted as an entry into its new mode, and a write of the same MODE is not. -/
def Obligations.DutyEventsCountAndOverflow : Prop :=
  (∀ (e : DutyEvent) (u : UnitNo) (s : State),
    (∀ n : CounterNo, (s.dutyEvent e u).counterValue u n =
      if s.eventOf u n = e ∧ s.canCount u n = true then s.counterValue u n + 1 else s.counterValue u n) ∧
    (∀ v, v ≠ u → (s.dutyEvent e u).dutyOf v = s.dutyOf v) ∧
    ((s.dutyOf u).freeze = true ∨ s.globalFreeze = true → s.dutyEvent e u = s) ∧
    s.dutyEvent e u = { s with duty := (s.dutyEvent e u).duty, plantPort := (s.dutyEvent e u).plantPort } ∧
    ∃ (t : State) (wrapped : List CounterNo),
      s.dutyEvent e u = wrapped.foldl (State.overflow u) t ∧
      wrapped.Pairwise (fun n k => n < k) ∧
      (∀ n, n ∈ wrapped ↔
        s.eventOf u n = e ∧ s.canCount u n = true ∧ s.counterValue u n = 0xFFFFFFFF#32) ∧
      t = (s.updDuty u fun _ => t.dutyOf u) ∧
      t.dutyOf u = { s.dutyOf u with value := (t.dutyOf u).value } ∧
      ∀ n : CounterNo, t.counterValue u n =
        if s.eventOf u n = e ∧ s.canCount u n = true then s.counterValue u n + 1 else s.counterValue u n) ∧
  (∀ (u : UnitNo) (n : CounterNo) (s : State),
    let latched := s.updDuty u fun d => { d with latches := d.latches ||| BitVec.twoPow 4 n.val, summary := true }
    let notified :=
      if (s.dutyOf u).notify.getLsbD n.val = true then
        latched.sendAlert .counterOverflow (unitByte u) (natHalf (n.val * 256 + eventCode (s.eventOf u n)))
      else latched
    State.overflow u s n =
      if (s.dutyOf u).freezeOnOverflow = true then notified.updDuty u fun d => { d with freeze := true } else notified) ∧
  (∀ (u : UnitNo) (m : UnitMode) (s : State),
    let entered := s.updUnit u fun r => { r with mode := m }
    ((s.unit u).mode = m → s.changeMode u m = s) ∧
    ((s.unit u).mode ≠ m →
      (m = .settled .gen → s.changeMode u m = entered.dutyEvent .entriesGen u) ∧
      (m = .settled .pmp → s.changeMode u m = entered.dutyEvent .entriesPmp u) ∧
      (m = .settled .scg ∨ m = .settled .scp → s.changeMode u m = entered.dutyEvent .entriesCondense u) ∧
      (m = .settled .st ∨ m = .tripped ∨ m = .out ∨ m = .unknown → s.changeMode u m = entered)))

/-- R174 to R176: DUTY_SECOND takes a whole second of a counter whose accumulator is at its last millisecond (log 12), while
its condition holds and it can count; at any other time it has no effect (log 2). It increases every counter of the
unit that counts the event and has its second complete; an increase from 4294967295 is an overflow, acted on once
every counter has been increased (log 26). The counters of a unit that measure at one time are all of one event. -/
def Obligations.DutySecondCountsAWholeSecond : Prop :=
  ∀ (u : UnitNo) (n : CounterNo) (s : State),
    let measures : CounterNo → Prop := fun k =>
      s.secondCondition u (s.eventOf u k) = true ∧ s.canCount u k = true
    let ready : CounterNo → Prop := fun k => measures k ∧ (s.dutyOf u).accumulator[k.val].val = 999
    let taken : CounterNo → Prop := fun k => ready k ∧ s.eventOf u k = s.eventOf u n
    (∀ k j, measures k → measures j → s.eventOf u k = s.eventOf u j) ∧
    (¬ ready n → exec (.dutySecond u n) s = .next s) ∧
    (ready n → ∃ (t : State) (wrapped : List CounterNo),
      exec (.dutySecond u n) s = .next (wrapped.foldl (State.overflow u) t) ∧
      wrapped.Pairwise (fun k j => k < j) ∧
      (∀ k, k ∈ wrapped ↔ taken k ∧ s.counterValue u k = 0xFFFFFFFF#32) ∧
      t = (s.updDuty u fun _ => t.dutyOf u) ∧
      t.dutyOf u = { s.dutyOf u with value := (t.dutyOf u).value, accumulator := (t.dutyOf u).accumulator } ∧
      ∀ k : CounterNo,
        (taken k → t.counterValue u k = s.counterValue u k + 1 ∧ (t.dutyOf u).accumulator[k.val].val = 0) ∧
        (¬ taken k → t.counterValue u k = s.counterValue u k ∧
          (t.dutyOf u).accumulator[k.val] = (s.dutyOf u).accumulator[k.val])) ∧
    (ready n → ∃ t : State, exec (.dutySecond u n) s = .next t ∧
      (∀ k, taken k →
        t.counterValue u k = s.counterValue u k + 1 ∧
        (s.counterValue u k = 0xFFFFFFFF#32 →
          (t.dutyOf u).latches.getLsbD k.val = true ∧ (t.dutyOf u).summary = true ∧
          ((s.dutyOf u).freezeOnOverflow = true → (t.dutyOf u).freeze = true))) ∧
      (∀ k, ¬ taken k →
        t.counterValue u k = s.counterValue u k ∧
        (t.dutyOf u).accumulator[k.val] = (s.dutyOf u).accumulator[k.val]) ∧
      t = { s with duty := t.duty, plantPort := t.plantPort } ∧ ∀ v, v ≠ u → t.dutyOf v = s.dutyOf v)

/-! ## Management requests (chapter 10) -/

/-- R159, R160, R161, R169: the requests that have no effect but their answer: shorter than a request header, with a
code of no request, or a COUNTER_CONTROL with no known action; and none is answered or has an effect while
RESET_PENDING is set. -/
def Obligations.RequestsWithoutEffect : Prop :=
  (∀ (src : Byte) (ident tag : Half) (payload : List Byte) (s : State), s.TakesRequests → payload.length < 4 →
    exec (.shortManagementRequest src ident tag payload) s =
      .next ((s.heard .plant src).originate .plant (answerTelegram tag (payload.getD 0 0) .badValue 0 []))) ∧
  (∀ (h : RequestHead) (code : Byte) (data : List Byte) (s : State), s.TakesRequests → data.length ≤ 60 →
    code = 0 ∨ 16 < code.toNat →
    exec (.noSuchRequest h code data) s = .next ((s.heard .plant h.src).replied h code .noSuchRequest [])) ∧
  (∀ (h : RequestHead) (data : List Byte) (s : State), s.TakesRequests → data.length ≤ 60 →
    (∀ a, data = [a] → a = 0 ∨ 5 < a.toNat) →
    exec (.counterControlBadValue h data) s = .next ((s.heard .plant h.src).replied h 14 .badValue [])) ∧
  (∀ (src : Byte) (ident tag : Half) (payload : List Byte) (s : State), s.plantPort.link = true →
    s.resetPending = true → payload.length ≤ 64 →
    exec (.requestWhileResetPending src ident tag payload) s = .next (s.heard .plant src)) ∧
  (∀ (i : Instr) (t : Telegram) (s : State), i.telegram? = some (.plant, t) → t.kind = 0x03 → t.dst = 0x01 →
    s.plantPort.link = true → s.resetPending = true → t.payload.length ≤ 64 →
    exec i s = .next (s.heard .plant t.src))

/-- R166, R167: IDENTIFY, and STATUS with its record and the latches that INDEX 1 clears. -/
def Obligations.IdentifyAndStatusReport : Prop :=
  ∀ (h : RequestHead) (data : List Byte) (s : State), s.TakesRequests → data.length ≤ 60 →
    let s0 := s.heard .plant h.src
    (data = [] → exec (.identify h data) s =
      .next (s0.replied h 1 .ok ([0x01, 0x08, Config.revision, 8, 2, 2, 32, 128, 12, 4, 24, 0x01, 0x00, 16, 4,
        dispatcherCode s.dispatcher]))) ∧
    (data ≠ [] → exec (.identify h data) s = .next (s0.replied h 1 .badValue [])) ∧
    (1 < h.index.toNat → exec (.status h data) s = .next (s0.replied h 2 .badIndex [])) ∧
    (h.index.toNat ≤ 1 → data ≠ [] → exec (.status h data) s = .next (s0.replied h 2 .badValue [])) ∧
    (h.index.toNat ≤ 1 → data = [] → ∃ record : List Byte,
      record.length = 37 ∧
      record.take 10 =
        [dispatcherCode s.dispatcher, boolByte s.program.running, s.program.run.start, hiByte s.program.run.length,
          loByte s.program.run.length, boolByte s.program.run.loop, s.program.currentRow] ++
        halfBytes (match s.program.running, s.program.rowDeadline with
          | true, some d => natHalf ((d - s.now + 999) / 1000)
          | _, _ => 0) ++ [boolByte s.program.pendingRun.isSome] ∧
      (∀ u : UnitNo, record[10 + u.val]? = some (unitModeCode (s.unit u).mode)) ∧
      (∀ u : UnitNo, ∀ f, record[18 + u.val]? = some f →
        f.getLsbD 0 = (s.unit u).configuredOut ∧ f.getLsbD 1 = (s.unit u).outInput ∧
        f.getLsbD 2 = (s.unit u).tripInput ∧ f.getLsbD 3 = (s.unit u).silent ∧ f.getLsbD 4 = (s.unit u).tripSeen ∧
        f.getLsbD 5 = (s.unit u).lastReport.isSome ∧ f.getLsbD 6 = (s.unit u).transition.isSome ∧
        f.getLsbD 7 = (s.unit u).reserveClaim.isSome) ∧
      record[26]? = some (natByte s.orders.length) ∧
      (∀ c : ConverterNo,
        (s.converter c = none → record[27 + 2 * c.val]? = some 0 ∧ record[28 + 2 * c.val]? = some 0xFF) ∧
        (∀ u, s.converter c = some u →
          record[27 + 2 * c.val]? = some 1 ∧ record[28 + 2 * c.val]? = some (natByte u.val))) ∧
      (∀ w : WaterwayNo,
        ((s.waterway w).window = .free → record[31 + w.val]? = some 0) ∧
        (∀ u, (s.waterway w).window = .held u → record[31 + w.val]? = some 1) ∧
        (∀ d, (s.waterway w).window = .settling d → record[31 + w.val]? = some 2)) ∧
      (∀ b, record[33]? = some b → b.getLsbD 0 = s.reserveA.level ∧ b.getLsbD 1 = s.reserveB.level) ∧
      (∀ b, record[34]? = some b →
        b.getLsbD 0 = s.reserveA.seen ∧ b.getLsbD 1 = s.reserveB.seen ∧ b.getLsbD 2 = (s.waterway 0).alarmSeen ∧
        b.getLsbD 3 = (s.waterway 1).alarmSeen ∧ b.getLsbD 4 = s.masterSilenceSeen) ∧
      (∀ b, record[35]? = some b → ∀ u : UnitNo, b.getLsbD u.val = (s.dutyOf u).summary) ∧
      (∀ b, record[36]? = some b → b.getLsbD 0 = s.plantPort.link ∧ b.getLsbD 1 = s.unitPort.link) ∧
      (h.index = 0 → exec (.status h data) s = .next (s0.replied h 2 .ok record)) ∧
      (h.index = 1 → ∃ t : State, exec (.status h data) s = .next (t.replied h 2 .ok record) ∧
        (∀ u, t.unit u = { s.unit u with tripSeen := false }) ∧
        (∀ w, t.waterway w = { s.waterway w with alarmSeen := false }) ∧
        t.reserveA = { s.reserveA with seen := false } ∧ t.reserveB = { s.reserveB with seen := false } ∧
        t.masterSilenceSeen = false ∧
        t = { s0 with
          units := t.units, waterways := t.waterways, reserveA := t.reserveA, reserveB := t.reserveB
          masterSilenceSeen := false }))

/-- R160, R162, R163: READ_TABLE: its checks in their order, and the entries it carries back to back, up to the count,
the table's last readable index and 60 bytes of DATA. -/
def Obligations.ReadTableCarriesEntries : Prop :=
  ∀ (h : RequestHead) (data : List Byte) (s : State), s.TakesRequests → data.length ≤ 60 →
    let s0 := s.heard .plant h.src
    (h.table.toNat ∉ [1, 2, 3, 4, 5, 6, 8, 9, 10, 11, 12, 16, 17, 18, 19, 20] →
      exec (.readTable h data) s = .next (s0.replied h 3 .noSuchTable [])) ∧
    (∀ table last size, (table, last, size) ∈
        [(1, 10, 16), (2, 31, 6), (3, 127, 16), (4, 11, 11), (5, 3, 2), (6, 15, 4), (8, 23, 13), (9, 15, 7),
          (10, 256, 25), (11, if h.index = 8 then 8 else 7, if h.index = 8 then 1 else 10), (12, 31, 4), (16, 7, 32),
          (17, 15, 12), (18, 7, 20), (19, 3, 44), (20, 1, 36)] →
      h.table.toNat = table →
      (last < h.index.toNat → exec (.readTable h data) s = .next (s0.replied h 3 .badIndex [])) ∧
      (h.index.toNat ≤ last →
        ((∀ c, data = [c] → c = 0) → exec (.readTable h data) s = .next (s0.replied h 3 .badValue [])) ∧
        (∀ c t, data = [c] → c ≠ 0 → tableOf h.table = some t →
          let n := min c.toNat (min (last + 1 - h.index.toNat) (60 / size))
          exec (.readTable h data) s =
            .next (({ s0 with freeCount := s.freeCount + 1 } : State).replied h 3 .ok
              ((List.range n).flatMap fun i => s0.entryBytes t (h.index.toNat + i))))))

/-- R165, R62, R87, R103, R157: the read-only views show the unit records, the order queue, the transitions, the
arbiter's resources and the ports as they stand. The converter wait list stands in both converter entries, in
service or not, although R103 also has such an entry read with its power-on values: that is the model's choice
(log 25). The rounding of a waterway's silence remaining is free (log 9), and so are the bytes whose content no rule
states, the two tag bytes of an absent CUT among them (log 7). -/
def Obligations.ViewsShowTheState : Prop :=
  ∀ s : State,
    (∀ u : UnitNo,
      let r := s.unit u
      let view := s.entryBytes .unitRecords u.val
      (r.holdQueue.length ≤ 4 → view.length = 32) ∧
      view.take 19 =
        [unitModeCode r.mode, r.flags] ++
          halfBytes (match r.silenceDeadline with
            | some d => natHalf ((d - s.now + 99) / 100)
            | none => 0xFFFF) ++
          (match r.lastReport with
            | some p => wordBytes p.statusWord ++ halfBytes p.power ++ halfBytes p.speed
            | none => [0, 0, 0, 0, 0, 0, 0, 0]) ++
          halfBytes r.lastSetpoint ++
          (match r.reserveClaim with
            | some c => [natByte (lineNumber c.line), modeCode c.target] ++ halfBytes c.setpoint
            | none => [0xFF, 0, 0, 0]) ++ [natByte r.holdQueue.length] ∧
      (∀ (k : Nat) (h : Held), r.holdQueue[k]? = some h →
        (view.drop (19 + 3 * k)).take 3 = [h.telegram.kind, natByte h.cls.val, natByte h.telegram.payload.length])) ∧
    (∀ (k : Nat) (o : Order), s.orders[k]? = some o → s.entryBytes .orderQueue k =
      halfBytes o.tag ++
        [originCode o.origin, match o.target with
          | .unit _ => 0
          | .pool _ => 1, match o.target with
          | .unit u => unitByte u
          | .pool p => natByte p.val, modeCode o.mode] ++
        halfBytes o.setpoint ++ halfBytes o.age ++
        halfBytes (match o.expiry with
          | some d => natHalf ((d - s.now + 999) / 1000)
          | none => 0)) ∧
    (∀ k : Nat, s.orders[k]? = none →
      (s.entryBytes .orderQueue k).length = 12 ∧ (s.entryBytes .orderQueue k)[2]? = some 0) ∧
    (∀ (u : UnitNo) (x : Transition), (s.unit u).transition = some x →
      let view := s.entryBytes .transitions u.val
      view.length = 20 ∧ (∀ c, x.cut = some c → view.drop 18 = halfBytes c.tag) ∧ view.take 18 =
      [unitByte x.unit, natByte x.route.val, modeCode x.origin, modeCode x.target, originCode x.source] ++
        halfBytes x.reference ++ halfBytes x.setpoint ++
        [natByte x.phaseNo, match x.phaseState with
          | .waiting => 0
          | .running => 1, natByte x.retriesUsed] ++
        halfBytes (natHalf ((x.deadline - s.now + 99) / 100)) ++
        [match x.heldConverter with
          | some c => natByte c.val
          | none => 0xFF, match x.heldWaterway with
          | some w => natByte w.val
          | none => 0xFF, modeCode x.lastLanding, match x.cut with
          | some c => originCode c.origin
          | none => 0]) ∧
    (∀ u : UnitNo, (s.unit u).transition = none →
      s.entryBytes .transitions u.val = [0, 0xFF] ++ List.replicate 18 0) ∧
    (∀ c : ConverterNo, (s.entryBytes .resources c.val).take 3 =
      (match s.converter c with
        | some u => [1, unitByte u]
        | none => [0, 0xFF]) ++ [natByte s.converterWait.length]) ∧
    (∀ (c : ConverterNo) (k : Nat) (e : WaitEntry), s.converterWait[k]? = some e →
      ((s.entryBytes .resources c.val).drop (3 + 4 * k)).take 4 =
        [unitByte e.unit, natByte e.rank] ++ halfBytes (natHalf ((s.now - e.requestTime) / 1000))) ∧
    (∀ (w : WaterwayNo) (k : Nat) (e : WaitEntry), (s.waterway w).wait[k]? = some e →
      ((s.entryBytes .resources (2 + w.val)).drop (11 + 4 * k)).take 4 =
        [unitByte e.unit, natByte e.rank] ++ halfBytes (natHalf ((s.now - e.requestTime) / 1000))) ∧
    (∀ w : WaterwayNo, ∃ silence : Half, ((s.waterway w).silenceDeadline = none → silence = 0xFFFF) ∧
      (∀ d, (s.waterway w).silenceDeadline = some d →
        silence = natHalf ((d - s.now) / 100) ∨ silence = natHalf ((d - s.now + 99) / 100)) ∧
      (s.entryBytes .resources (2 + w.val)).take 11 =
      (match (s.waterway w).window with
        | .free => [0, 0xFF, 0, 0]
        | .held u => [1, unitByte u, 0, 0]
        | .settling d => [2, 0xFF] ++ halfBytes (natHalf ((d - s.now + 999) / 1000))) ++
        [boolByte (s.waterway w).alarm, boolByte (s.waterway w).alarmSeen] ++ halfBytes silence ++
        halfBytes ((s.waterway w).lastLevel.getD 0xFFFF) ++ [natByte (s.waterway w).wait.length]) ∧
    ∀ p : PortName, s.entryBytes .portCounters (match p with | .plant => 0 | .unit => 1) =
      wordBytes (s.port p).counters.receivedGood ++ wordBytes (s.port p).counters.crcErrors ++
        wordBytes (s.port p).counters.malformed ++ wordBytes (s.port p).counters.forwarded ++
        wordBytes (s.port p).counters.droppedGuard ++ wordBytes (s.port p).counters.droppedForeign ++
        wordBytes (s.port p).counters.originated ++ wordBytes (s.port p).counters.transmitDrops ++
        [boolByte (s.port p).link, natByte (s.port p).originated.length, natByte (s.port p).forwarded.length, 0]

/-- R160, R119, R162: the checks of WRITE_TABLE before the owner's, in their order. R164, R118, R25, R4, R49, R108,
R139, R141, R127, R177: a WRITE_TABLE that passes every check replaces exactly one entry and answers with the entry
as now stored; one whose DATA its table's rule does not accept answers BAD_VALUE and changes nothing. Filler bytes are not examined, and read as 0. R177: counter
control is written with a value for every written field; a changed EVENT keeps the counter's value and sets its
accumulator to 0, and FREEZE and the latches stay. -/
def Obligations.WriteTableReplacesOneEntry : Prop :=
  (∀ (h : RequestHead) (data : List Byte) (s : State), s.TakesRequests → data.length ≤ 60 →
    let answered : Result → Host.Outcome State Fault Refusal := fun r =>
      .next ((s.heard .plant h.src).replied h 4 r [])
    (h.table.toNat ∉ [1, 2, 3, 4, 5, 6, 8, 9, 10, 11, 12] → exec (.writeTable h data) s = answered .noSuchTable) ∧
    (1 ≤ h.table.toNat → h.table.toNat ≤ 6 → s.dispatcher ≠ .unplanned →
      exec (.writeTable h data) s = answered .planLocked) ∧
    (∀ table entries, (table, entries) ∈
        [(1, 11), (2, 32), (3, 128), (4, 12), (5, 4), (6, 16), (8, 24), (9, 16), (10, 256), (11, 8), (12, 32)] →
      h.table.toNat = table → (6 < table ∨ s.dispatcher = .unplanned) → entries ≤ h.index.toNat →
      exec (.writeTable h data) s = answered .badIndex)) ∧
  (∀ (h : RequestHead) (data : List Byte) (s : State), s.TakesRequests → data.length ≤ 60 →
    let s0 := s.heard .plant h.src
    let i := h.index.toNat
    let bad := exec (.writeTable h data) s = .next (s0.replied h 4 .badValue [])
    let storedAs : List Byte → State → Prop := fun bytes t =>
      exec (.writeTable h data) s = .next (t.replied h 4 .ok bytes)
    let stored := storedAs data
    (s.dispatcher = .unplanned →
      (h.table = 1 → 1 ≤ i → i ≤ 8 →
        (parseUnitEntry data = none → bad) ∧
        (∀ e, parseUnitEntry data = some e →
          storedAs (unitEntryBytes e) { s0 with plan := { s.plan with unitEntries := s.plan.unitEntries.setIfInBounds (i - 1) e } })) ∧
      (h.table = 1 → 9 ≤ i → i ≤ 10 →
        (parseWaterwayEntry data = none → bad) ∧
        (∀ e, parseWaterwayEntry data = some e →
          storedAs (waterwayEntryBytes e) { s0 with plan := { s.plan with waterwayEntries := s.plan.waterwayEntries.setIfInBounds (i - 9) e } })) ∧
      (h.table = 2 → i ≤ 31 →
        (parseRoute data = none → bad) ∧
        (∀ e, parseRoute data = some e →
          stored { s0 with plan := { s.plan with routes := s.plan.routes.setIfInBounds i e } })) ∧
      (h.table = 3 → i ≤ 127 →
        (parsePhase data = none → bad) ∧
        (∀ e, parsePhase data = some e →
          stored { s0 with plan := { s.plan with phases := s.plan.phases.setIfInBounds i e } })) ∧
      (h.table = 4 → i ≤ 11 →
        (parseRecognition data = none → bad) ∧
        (∀ e, parseRecognition data = some e →
          stored { s0 with plan := { s.plan with recognition := s.plan.recognition.setIfInBounds i e } })) ∧
      (h.table = 5 → i ≤ 3 →
        (parsePool data = none → bad) ∧
        (∀ e, parsePool data = some e →
          stored { s0 with plan := { s.plan with pools := s.plan.pools.setIfInBounds i e } })) ∧
      (h.table = 6 → i ≤ 15 →
        (parseReserve data = none → bad) ∧
        (∀ e, parseReserve data = some e →
          stored { s0 with plan := { s.plan with reserve := s.plan.reserve.setIfInBounds i e } }))) ∧
    (h.table = 8 → i ≤ 23 →
      (parseMatch data = none → bad) ∧
      (∀ e, parseMatch data = some e → stored { s0 with matchTable := s.matchTable.setIfInBounds i e })) ∧
    (h.table = 9 → i ≤ 15 →
      (parseGuard data = none → bad) ∧
      (∀ e, parseGuard data = some e → stored { s0 with guardTable := s.guardTable.setIfInBounds i e })) ∧
    (h.table = 10 → i ≤ 255 →
      (parseRow data = none → bad) ∧
      (∀ e, parseRow data = some e → stored { s0 with schedule := s.schedule.setIfInBounds i e })) ∧
    (h.table = 12 → ∀ (u : UnitNo) (n : CounterNo), i = u.val * 4 + n.val →
      (data.length ≠ 4 → bad) ∧
      (∀ v, data = wordBytes v →
        stored (s0.updDuty u fun d => { d with value := d.value.set n.val v })))) ∧
  (∀ (h : RequestHead) (data : List Byte) (s : State), s.TakesRequests → data.length ≤ 60 → h.table = 11 →
    h.index.toNat ≤ 7 →
    (data.length ≠ 7 ∨ (∃ k, k < 4 ∧ 15 < (data.getD k 0).toNat) ∨ 15 < (data.getD 4 0).toNat ∨
      15 < (data.getD 5 0).toNat ∨ 1 < (data.getD 6 0).toNat) →
    exec (.writeTable h data) s = .next ((s.heard .plant h.src).replied h 4 .badValue [])) ∧
  (∀ (h : RequestHead) (e0 e1 e2 e3 : DutyEvent) (enable notify : BitVec 4) (fo : Bool) (u : UnitNo) (s : State),
    s.TakesRequests → h.table = 11 → h.index.toNat = u.val →
    let data : List Byte :=
      [natByte (eventCode e0), natByte (eventCode e1), natByte (eventCode e2), natByte (eventCode e3),
        enable.setWidth 8, notify.setWidth 8, boolByte fo]
    let d := s.dutyOf u
    ∃ t : State, exec (.writeTable h data) s =
        .next (t.replied h 4 .ok (data ++ [boolByte d.freeze, d.latches.setWidth 8, boolByte d.summary])) ∧
      t = (s.heard .plant h.src).updDuty u (fun _ => t.dutyOf u) ∧
      t.dutyOf u =
        { d with
          event := #v[e0, e1, e2, e3], enable := enable, notify := notify, freezeOnOverflow := fo
          accumulator := (t.dutyOf u).accumulator } ∧
      ∀ n : CounterNo, (t.dutyOf u).accumulator[n.val] =
        if d.event[n.val] = (#v[e0, e1, e2, e3] : Vector DutyEvent 4)[n.val] then d.accumulator[n.val] else 0)

/-- R118, R2, R106: a write of the station entry; its filler byte is not examined. Units that leave service return to their power-on values, units that
enter it start from them with their silence timer running and their lines sampled, waterways likewise; the others
stay. No TRIP line of a unit that enters service is asserted. -/
def Obligations.StationWriteMovesUnitsAndWaterways : Prop :=
  ∀ (h : RequestHead) (data : List Byte) (s : State), s.TakesRequests → s.dispatcher = .unplanned → h.table = 1 →
    h.index = 0 →
    (parseStation data = none → data.length ≤ 60 →
      exec (.writeTable h data) s = .next ((s.heard .plant h.src).replied h 4 .badValue [])) ∧
    (∀ e, parseStation data = some e →
      (∀ u : UnitNo, s.plan.station.unitCount.toNat ≤ u.val → u.val < e.unitCount.toNat →
        s.lines.trip.getLsbD u.val = false) →
      ∃ t : State, exec (.writeTable h data) s = .next (t.replied h 4 .ok (stationBytes e)) ∧
        t = { s.heard .plant h.src with
          plan := { s.plan with station := e }, units := t.units, waterways := t.waterways } ∧
        ∀ u : UnitNo,
          let was := u.val < s.plan.station.unitCount.toNat
          let is := u.val < e.unitCount.toNat
          let fresh : Option Nat → Option Nat → UnitRecord := fun silence debounce =>
            { mode := .unknown, configuredOut := false, outInput := false, tripInput := s.lines.trip.getLsbD u.val
              silent := false, silenceDeadline := silence, lastReport := none, lastSetpoint := 0, transition := none
              reserveClaim := none, holdQueue := [], tripSeen := false, outDebounce := debounce }
          (was ↔ is) ∧ t.unit u = s.unit u ∨
          was ∧ ¬ is ∧ t.unit u = fresh none none ∨
          ¬ was ∧ is ∧ t.unit u = fresh (some (s.now + 100 * s.plan.unitEntries[u.val].unitSilence.toNat))
            (if s.lines.out.getLsbD u.val then some (s.now + 100) else none)) ∧
    (∀ (e : Station) (t : State), parseStation data = some e →
      exec (.writeTable h data) s = .next t → ∀ w : WaterwayNo,
        let was := w.val < s.plan.station.waterwayCount.toNat
        let is := w.val < e.waterwayCount.toNat
        (was ↔ is) ∧ t.waterway w = s.waterway w ∨
        was ∧ ¬ is ∧ t.waterway w =
          { window := .free, alarm := false, alarmSeen := false, silenceDeadline := none, lastLevel := none,
            wait := [] } ∨
        ¬ was ∧ is ∧ t.waterway w =
          { window := .free, alarm := false, alarmSeen := false
            silenceDeadline := some (s.now + 100 * s.plan.waterwayEntries[w.val].waterwaySilence.toNat)
            lastLevel := none, wait := [] })

/-- R165: in every table the layout that a write accepts is the layout in which the entry is read: a written entry reads
back as the bytes written (filler bytes are not examined, and read as 0), and every entry in range is written by the
bytes it reads as. R118, R25, R164, R49, R108, R139, R141, R127, R177: the length and the ranges of the bytes that a
write accepts, table by table; DATA outside them is read as no entry, and answered BAD_VALUE (see
WriteTableReplacesOneEntry). -/
def Obligations.WrittenEntriesReadBack : Prop :=
  (∀ data e, parseStation data = some e ↔
    (∃ f, data = (stationBytes e).take 15 ++ [f]) ∧ 1 ≤ e.unitCount.toNat ∧ e.unitCount.toNat ≤ 8 ∧
    1 ≤ e.waterwayCount.toNat ∧ e.waterwayCount.toNat ≤ 2 ∧ e.converterCount.toNat ≤ 2 ∧
    e.masterSilence.toNat ≤ 6000 ∧ 1 ≤ e.waitLimitSchedule.toNat ∧ e.waitLimitSchedule.toNat ≤ 3600 ∧
    1 ≤ e.waitLimitDispatch.toNat ∧ e.waitLimitDispatch.toNat ≤ 3600 ∧ 1 ≤ e.waitLimitReserve.toNat ∧
    e.waitLimitReserve.toNat ≤ 3600 ∧ e.reserveDebounceA.toNat ≤ 100 ∧ e.reserveDebounceB.toNat ≤ 100) ∧
  (∀ data e, parseUnitEntry data = some e ↔
    (∃ filler : List Byte, filler.length = 13 ∧ data = (unitEntryBytes e).take 3 ++ filler) ∧
    5 ≤ e.unitSilence.toNat ∧ e.unitSilence.toNat ≤ 600) ∧
  (∀ data e, parseWaterwayEntry data = some e ↔
    (∃ filler : List Byte, filler.length = 12 ∧ data = (waterwayEntryBytes e).take 4 ++ filler) ∧
    e.settleTime.toNat ≤ 600 ∧ 5 ≤ e.waterwaySilence.toNat ∧ e.waterwaySilence.toNat ≤ 600) ∧
  (∀ e, (stationBytes e).drop 15 = [0]) ∧ (∀ e, (unitEntryBytes e).drop 3 = List.replicate 13 0) ∧
  (∀ e, (waterwayEntryBytes e).drop 4 = List.replicate 12 0) ∧
  (∀ data e, parseRoute data = some e ↔ data = routeBytes e ∧ 1 ≤ e.phaseCount ∧ e.phaseCount ≤ 8) ∧
  (∀ data e, parsePhase data = some e ↔ data = phaseBytes e ∧ e.retries ≤ 3) ∧
  (∀ data e, parseRecognition data = some e ↔ data = recognitionBytes e) ∧
  (∀ data e, parsePool data = some e ↔ data = poolBytes e) ∧
  (∀ data e, parseReserve data = some e ↔ data = reserveBytes e ∧ e.setpoint.toNat ≤ 4000) ∧
  (∀ data e, parseMatch data = some e ↔ data = matchBytes e ∧ (∀ k, e.kind = some k → 0x10 ≤ k.toNat) ∧
    (∀ n, e.len = some n → n.toNat ≤ 64) ∧ 1 ≤ e.cls.val) ∧
  (∀ data e, parseGuard data = some e ↔ data = guardBytes e) ∧
  (∀ data e, parseRow data = some e ↔ data = rowBytes e ∧ 1 ≤ e.duration.toNat ∧ e.duration.toNat ≤ 240 ∧
    ∀ u : UnitNo, e.entries[u.val].setpoint.toNat ≤ 4000) ∧
  (∀ data c, parseControl data = some c ↔
    data = (counterNumbers.map fun n => natByte (eventCode c.event[n.val])) ++
      [c.enable.setWidth 8, c.notify.setWidth 8, boolByte c.freezeOnOverflow]) ∧
  (∀ data v, parseValue data = some v ↔ data = wordBytes v) ∧
  (∀ data : List Byte,
    let byte : Nat → Nat := fun k => (data.getD k 0).toNat
    let pair : Nat → Nat := fun k => byte k * 256 + byte (k + 1)
    ((∃ e, parseStation data = some e) ↔ data.length = 16 ∧ 1 ≤ byte 0 ∧ byte 0 ≤ 8 ∧ 1 ≤ byte 1 ∧ byte 1 ≤ 2 ∧
      byte 2 ≤ 2 ∧ pair 5 ≤ 6000 ∧ 1 ≤ pair 7 ∧ pair 7 ≤ 3600 ∧ 1 ≤ pair 9 ∧ pair 9 ≤ 3600 ∧ 1 ≤ pair 11 ∧
      pair 11 ≤ 3600 ∧ byte 13 ≤ 100 ∧ byte 14 ≤ 100) ∧
    ((∃ e, parseUnitEntry data = some e) ↔ data.length = 16 ∧ byte 0 ≤ 1 ∧ 5 ≤ pair 1 ∧ pair 1 ≤ 600) ∧
    ((∃ e, parseWaterwayEntry data = some e) ↔ data.length = 16 ∧ pair 0 ≤ 600 ∧ 5 ≤ pair 2 ∧ pair 2 ≤ 600) ∧
    ((∃ e, parseRoute data = some e) ↔ data.length = 6 ∧ byte 0 ≤ 1 ∧ byte 1 ≤ 4 ∧ byte 2 ≤ 4 ∧ byte 4 ≤ 127 ∧
      1 ≤ byte 5 ∧ byte 5 ≤ 8) ∧
    ((∃ e, parsePhase data = some e) ↔ data.length = 16 ∧ byte 1 ≤ 4 ∧ byte 12 ≤ 3 ∧ byte 13 ≤ 3 ∧ byte 14 ≤ 3 ∧
      byte 15 ≤ 1) ∧
    ((∃ e, parseRecognition data = some e) ↔ data.length = 11 ∧ byte 0 ≤ 1 ∧ byte 1 ≤ 15) ∧
    ((∃ e, parsePool data = some e) ↔ data.length = 2 ∧ byte 1 ≤ 3) ∧
    ((∃ e, parseReserve data = some e) ↔ data.length = 4 ∧ byte 0 ≤ 31 ∧ (byte 1 ≤ 4 ∨ byte 1 = 255) ∧
      pair 2 ≤ 4000) ∧
    ((∃ e, parseMatch data = some e) ↔ data.length = 13 ∧ byte 0 ≤ 1 ∧ byte 1 ≤ 2 ∧ (byte 2 = 0 ∨ 16 ≤ byte 2) ∧
      (byte 7 ≤ 64 ∨ byte 7 = 255) ∧ 1 ≤ byte 12 ∧ byte 12 ≤ 15) ∧
    ((∃ e, parseGuard data = some e) ↔ data.length = 7 ∧ ∀ k, byte k ≤ 2) ∧
    ((∃ e, parseRow data = some e) ↔ data.length = 25 ∧ 1 ≤ byte 0 ∧ byte 0 ≤ 240 ∧
      ∀ u : UnitNo, (byte (1 + 3 * u.val) ≤ 4 ∨ byte (1 + 3 * u.val) = 15) ∧ pair (2 + 3 * u.val) ≤ 4000) ∧
    ((∃ c, parseControl data = some c) ↔ data.length = 7 ∧ (∀ k, k < 6 → byte k ≤ 15) ∧ byte 6 ≤ 1) ∧
    ((∃ v, parseValue data = some v) ↔ data.length = 4))

/-- R36 to R39, R49, R109, R121: COMMIT's walk finds no failing check exactly when every plan table satisfies its rule.
R120: the table and index it
finds are those of the first check that fails, in table order and within a table in index order. R120: COMMIT outside UNPLANNED is WRONG_STATE; in UNPLANNED it answers COMMIT_FAILED with the failing table and
index, or makes the dispatcher DIRECTED and starts the master silence timer. -/
def Obligations.CommitChecksThePlan : Prop :=
  (∀ s : State, s.commitWalk = none ↔
    let station := s.plan.station
    let units := station.unitCount.toNat
    (station.abortCommand ≠ 0 ∧ station.setpointCommand ≠ 0) ∧
    (∀ u : UnitNo, u.val < units → s.plan.unitEntries[u.val].waterway.val < station.waterwayCount.toNat) ∧
    (∀ r : Fin 32, s.plan.routes[r.val].enabled = true →
      let e := s.plan.routes[r.val]
      e.fromMode ≠ e.toMode ∧ e.units ≠ 0 ∧ (∀ u : UnitNo, e.units.getLsbD u.val = true → u.val < units) ∧
        e.firstPhase.val + e.phaseCount ≤ 128) ∧
    (∀ (r : Fin 32) (k : Nat), s.plan.routes[r.val].enabled = true → 1 ≤ k → k ≤ s.plan.routes[r.val].phaseCount →
      let e := s.plan.routes[r.val]
      let p := s.phaseAt r k
      let kept := if k = 1 then Resources.none else (s.phaseAt r (k - 1)).keep
      p.command ≠ 0 ∧ p.statusMask ≠ 0 ∧ p.timeLimit ≠ 0 ∧
        (k = e.phaseCount → p.landing = e.toMode ∧ p.keep = .none) ∧
        (station.converterCount = 0 → p.claim.hasConverter = false) ∧
        (p.keep.hasConverter = true → p.claim.hasConverter = true ∨ kept.hasConverter = true) ∧
        (p.keep.hasWaterway = true → p.claim.hasWaterway = true ∨ kept.hasWaterway = true) ∧
        ¬ (kept.hasWaterway = true ∧ p.claim.hasConverter = true ∧ kept.hasConverter = false)) ∧
    (∀ i : Fin 12, s.plan.recognition[i.val].enabled = true →
      s.plan.recognition[i.val].mask ≠ 0 ∧ s.plan.recognition[i.val].mode.val ≤ 5) ∧
    (∀ (i : Fin 4) (u : UnitNo), s.plan.pools[i.val].members.getLsbD u.val = true → u.val < units) ∧
    (∀ (line : ReserveLine) (u : UnitNo) (e : ReserveEntry) (m n : Mode),
      s.plan.reserve[8 * lineNumber line + u.val]? = some e → u.val < units → e.target = some n →
      e.apply.getLsbD (modeCode m).toNat = true → m ≠ n → s.lookupRoute u m n ≠ none)) ∧
  (∀ (s : State) (table index : Nat),
    let station := s.plan.station
    let units := station.unitCount.toNat
    let passes : Nat → Nat → Prop := fun t i =>
      (t = 1 → i = 0 → station.abortCommand ≠ 0 ∧ station.setpointCommand ≠ 0) ∧
      (∀ u : UnitNo, t = 1 → i = 1 + u.val → u.val < units →
        s.plan.unitEntries[u.val].waterway.val < station.waterwayCount.toNat) ∧
      (∀ r : Fin 32, t = 2 → i = r.val → s.plan.routes[r.val].enabled = true →
        let e := s.plan.routes[r.val]
        e.fromMode ≠ e.toMode ∧ e.units ≠ 0 ∧ (∀ u : UnitNo, e.units.getLsbD u.val = true → u.val < units) ∧
          e.firstPhase.val + e.phaseCount ≤ 128) ∧
      (∀ (r : Fin 32) (k : Nat), t = 3 → s.plan.routes[r.val].enabled = true → 1 ≤ k →
        k ≤ s.plan.routes[r.val].phaseCount → i + 1 = s.plan.routes[r.val].firstPhase.val + k →
        let e := s.plan.routes[r.val]
        let p := s.phaseAt r k
        let kept := if k = 1 then Resources.none else (s.phaseAt r (k - 1)).keep
        p.command ≠ 0 ∧ p.statusMask ≠ 0 ∧ p.timeLimit ≠ 0 ∧
          (k = e.phaseCount → p.landing = e.toMode ∧ p.keep = .none) ∧
          (station.converterCount = 0 → p.claim.hasConverter = false) ∧
          (p.keep.hasConverter = true → p.claim.hasConverter = true ∨ kept.hasConverter = true) ∧
          (p.keep.hasWaterway = true → p.claim.hasWaterway = true ∨ kept.hasWaterway = true) ∧
          ¬ (kept.hasWaterway = true ∧ p.claim.hasConverter = true ∧ kept.hasConverter = false)) ∧
      (∀ n : Fin 12, t = 4 → i = n.val → s.plan.recognition[n.val].enabled = true →
        s.plan.recognition[n.val].mask ≠ 0 ∧ s.plan.recognition[n.val].mode.val ≤ 5) ∧
      (∀ (n : Fin 4) (u : UnitNo), t = 5 → i = n.val → s.plan.pools[n.val].members.getLsbD u.val = true →
        u.val < units) ∧
      (∀ (line : ReserveLine) (u : UnitNo) (e : ReserveEntry) (m n : Mode), t = 6 →
        i = 8 * lineNumber line + u.val → s.plan.reserve[i]? = some e → u.val < units → e.target = some n →
        e.apply.getLsbD (modeCode m).toNat = true → m ≠ n → s.lookupRoute u m n ≠ none)
    (s.commitWalk = some (table, index) ↔
      ¬ passes table index ∧ ∀ t i, t < table ∨ (t = table ∧ i < index) → passes t i)) ∧
  (∀ (h : RequestHead) (data : List Byte) (s : State), s.TakesRequests → data.length ≤ 60 →
    let s0 := s.heard .plant h.src
    (data ≠ [] → exec (.commit h data) s = .next (s0.replied h 5 .badValue [])) ∧
    (data = [] →
      (s.dispatcher ≠ .unplanned → exec (.commit h data) s = .next (s0.replied h 5 .wrongState [])) ∧
      (s.dispatcher = .unplanned →
        (∀ table index, s.commitWalk = some (table, index) → exec (.commit h data) s =
          .next (s0.replied h 5 .commitFailed ([natByte table] ++ halfBytes (natHalf index)))) ∧
        (s.commitWalk = none → exec (.commit h data) s =
          .next (({ s0 with
            dispatcher := .directed
            masterDeadline :=
              if s.plan.station.masterSilence = 0 then none
              else some (s.now + 100 * s.plan.station.masterSilence.toNat) } : State).replied h 5 .ok [])))))

/-- R125, R60: UNCOMMIT withdraws every queued order and leaves the dispatcher UNPLANNED, with the program STOPPED, or
DRAINING; the answer carries the state reached. With nothing queued these are its only effects. R126: a drain ends
once nothing is in flight or pending. R125 and R126 say of the program STOPPED with PENDING absent; that the row
deadline and the captured content go too is the model's reading (log 14). R59: PURGE_ORDER withdraws the queued
DISPATCH orders with the tag and answers their number, or answers BAD_INDEX; a pool order that it withdraws leaves
with its status. The number answered is that of the orders with the tag when the request is taken: the model withdraws
them all before it makes a start attempt (log 10). -/
def Obligations.UncommitAndPurgeWithdrawOrders : Prop :=
  (∀ (h : RequestHead) (data : List Byte) (s : State), s.TakesRequests → data.length ≤ 60 →
    let s0 := s.heard .plant h.src
    (data ≠ [] → exec (.uncommit h data) s = .next (s0.replied h 6 .badValue [])) ∧
    (data = [] →
      (s.dispatcher = .unplanned ∨ s.dispatcher = .draining → exec (.uncommit h data) s =
        .next (s0.replied h 6 .wrongState [])) ∧
      (s.dispatcher = .directed ∨ s.dispatcher = .autonomous →
        (∃ (t : State) (code : Byte), exec (.uncommit h data) s = .next (t.replied h 6 .ok [code]) ∧ t.orders = [] ∧
          t.masterDeadline = none ∧
          ((t.dispatcher = .unplanned ∧ code = 0 ∧ t.program.running = false ∧
              ∀ u, (t.unit u).transition = none ∧ (t.unit u).reserveClaim = none) ∨
            (t.dispatcher = .draining ∧ code = 3 ∧ t.program = s.program ∧
              ∃ u, (t.unit u).transition ≠ none ∨ (t.unit u).reserveClaim ≠ none))) ∧
        (s.orders = [] →
          ((∀ u, (s.unit u).transition = none ∧ (s.unit u).reserveClaim = none) → exec (.uncommit h data) s =
            .next (({ s0 with
              dispatcher := .unplanned, masterDeadline := none
              program :=
                { s.program with running := false, rowDeadline := none, captured := none, pendingRun := none } } :
              State).replied h 6 .ok [0])) ∧
          ((∃ u, (s.unit u).transition ≠ none ∨ (s.unit u).reserveClaim ≠ none) → exec (.uncommit h data) s =
            .next (({ s0 with dispatcher := .draining, masterDeadline := none } : State).replied h 6 .ok [3])))))) ∧
  (∀ (h : RequestHead) (data : List Byte) (s : State), s.TakesRequests → data.length ≤ 60 →
    let s0 := s.heard .plant h.src
    let tagged : Order → Bool := fun o => decide (o.origin = .dispatch ∧ o.tag = h.index)
    (data ≠ [] → exec (.purgeOrder h data) s = .next (s0.replied h 9 .badValue [])) ∧
    (data = [] →
      (s.orders.filter tagged = [] → exec (.purgeOrder h data) s = .next (s0.replied h 9 .badIndex [])) ∧
      (s.orders.filter tagged ≠ [] →
        ∃ t : State, exec (.purgeOrder h data) s = .next (t.replied h 9 .ok [natByte (s.orders.filter tagged).length]) ∧
          (t.orders.filter tagged = []) ∧ t.orders.Sublist s.orders) ∧
      (∀ o k, s.orders.filter tagged = [o] → o.target = .pool k → exec (.purgeOrder h data) s =
        .next ((({ s0 with orders := s.orders.filter fun q => !tagged q } : State).sendStatus o.tag .withdrawn .purged
          0xFF (modeCode o.mode) .dispatch).replied h 9 .ok [1])))) ∧
  (∀ s : State,
    (s.dispatcher = .draining → (∀ u, (s.unit u).transition = none ∧ (s.unit u).reserveClaim = none) →
      s.drainCheck =
        ({ s with
          dispatcher := .unplanned
          program := { s.program with running := false, rowDeadline := none, captured := none, pendingRun := none } } :
          State).sendAlert .drainDone 0 0) ∧
    (s.dispatcher ≠ .draining ∨ (∃ u, (s.unit u).transition ≠ none ∨ (s.unit u).reserveClaim ≠ none) →
      s.drainCheck = s))

/-- R18: SET_OUT, by the situation in which it is taken. R20, R21: FORCE_MODE, by the situation in which it is taken.
With no claim waiting the start attempt that follows starts nothing. R17 steps 3 and 4, whatever waits: a queued order
for the unit that SET_OUT takes out, and its pending reserve claim, end FAILED with UNIT_OUT. R20, R21, whatever
waits: FORCE_MODE is followed by a start attempt. The end of a drain comes last (log 14). -/
def Obligations.SetOutAndForceModeWriteTheUnit : Prop :=
  (∀ (h : RequestHead) (data : List Byte) (s : State), s.TakesRequests → data.length ≤ 60 → s.DispatcherStateSound →
    let s0 := s.heard .plant h.src
    let i := Instr.setOut h data
    (8 ≤ h.index.toNat ∨ s.plan.station.unitCount.toNat ≤ h.index.toNat → exec i s =
      .next (s0.replied h 7 .badIndex [])) ∧
    ∀ u : UnitNo, u.val = h.index.toNat → u.val < s.plan.station.unitCount.toNat →
      ((∀ b, data = [b] → 1 < b.toNat) → exec i s = .next (s0.replied h 7 .badValue [])) ∧
      (data = [1] →
        ((s.unit u).transition ≠ none → exec i s = .next (s0.replied h 7 .busy [])) ∧
        ((s.unit u).transition = none → (s.unit u).outInput = true ∨ (s.unit u).configuredOut = true → exec i s =
          .next ((s0.updUnit u fun r => { r with configuredOut := true }).replied h 7 .ok [])) ∧
        ((s.unit u).transition = none → (s.unit u).outInput = false → (s.unit u).configuredOut = false →
          ∃ t : State, exec i s = .next (t.replied h 7 .ok []) ∧
            t.unit u = { s.unit u with configuredOut := true, mode := .out, reserveClaim := none } ∧
            (∀ v, v ≠ u → t.unit v = s.unit v) ∧
            t.orders = s.orders.filter fun o => decide (o.target ≠ .unit u))) ∧
      (data = [0] →
        ((s.unit u).outInput = false → (s.unit u).configuredOut = true → exec i s =
          .next ((s0.updUnit u fun r =>
            { r with
              configuredOut := false
              mode := if (s.unit u).tripInput then .tripped else .unknown }).replied h 7 .ok [])) ∧
        ((s.unit u).outInput = true ∨ (s.unit u).configuredOut = false → exec i s =
          .next ((s0.updUnit u fun r => { r with configuredOut := false }).replied h 7 .ok [])))) ∧
  (∀ (h : RequestHead) (data : List Byte) (s : State), s.TakesRequests → data.length ≤ 60 → s.DispatcherStateSound →
    let s0 := s.heard .plant h.src
    let i := Instr.forceMode h data
    (8 ≤ h.index.toNat ∨ s.plan.station.unitCount.toNat ≤ h.index.toNat → exec i s =
      .next (s0.replied h 8 .badIndex [])) ∧
    ∀ u : UnitNo, u.val = h.index.toNat → u.val < s.plan.station.unitCount.toNat →
      ((∀ b, data = [b] → 4 < b.toNat) → exec i s = .next (s0.replied h 8 .badValue [])) ∧
      ∀ m : Mode, data = [modeCode m] →
        ((s.unit u).mode ≠ .unknown → exec i s = .next (s0.replied h 8 .wrongState [])) ∧
        ((s.unit u).mode = .unknown →
          (∃ t : State, exec i s = .next (t.replied h 8 .ok []) ∧ (t.unit u).mode = .settled m) ∧
          (s.orders = [] → (s.unit u).reserveClaim = none → exec i s =
            .next ((s0.changeMode u (.settled m)).replied h 8 .ok [])))) ∧
  (∀ (h : RequestHead) (u : UnitNo) (s : State), s.TakesRequests → u.val = h.index.toNat →
    u.val < s.plan.station.unitCount.toNat →
    let s0 := s.heard .plant h.src
    ((s.unit u).transition = none → (s.unit u).outInput = false → (s.unit u).configuredOut = false →
      exec (.setOut h [1]) s =
        .next ((((s0.updUnit u fun r => { r with configuredOut := true, mode := .out }).waitingFails u none
          .unitOut).drainCheck).replied h 7 .ok [])) ∧
    (∀ m : Mode, (s.unit u).mode = .unknown → exec (.forceMode h [modeCode m]) s =
      .next ((((s0.changeMode u (.settled m)).startAttempt u).drainCheck).replied h 8 .ok [])))

/-- R129, R130, R131: PROGRAM_START, PROGRAM_RENEW and PROGRAM_STOP. In DIRECTED a row begins without claims; in
AUTONOMOUS row START hands its schedule claims (see RowsEndAndHandTheirClaims) before the answer. -/
def Obligations.ProgramRequestsSetTheRun : Prop :=
  ∀ (h : RequestHead) (data : List Byte) (s : State), s.TakesRequests → data.length ≤ 60 →
    let s0 := s.heard .plant h.src
    let ended : Program :=
      { s.program with running := false, rowDeadline := none, captured := none, pendingRun := none }
    (data = [] → exec (.programStop h data) s = .next (({ s0 with program := ended } : State).replied h 12 .ok [])) ∧
    (data ≠ [] → exec (.programStop h data) s = .next (s0.replied h 12 .badValue [])) ∧
    (data.length ≠ 4 →
      exec (.programStart h data) s = .next (s0.replied h 10 .badValue []) ∧
      exec (.programRenew h data) s = .next (s0.replied h 11 .badValue [])) ∧
    ∀ (start loop : Byte) (length : Half), data = [start, hiByte length, loByte length, loop] →
      let inRange := 1 ≤ length.toNat ∧ length.toNat ≤ 256 ∧ loop.toNat ≤ 1
      let run : Run := { start := start, length := length, loop := decide (loop = 1) }
      let begun : Program :=
        { running := true, run := run, currentRow := start
          rowDeadline := some (s.now + 60000 * (s.schedule[start.toNat]).duration.toNat)
          captured := some s.schedule[start.toNat], pendingRun := none }
      (s.dispatcher = .unplanned ∨ s.dispatcher = .draining →
        exec (.programStart h data) s = .next (s0.replied h 10 .wrongState [])) ∧
      (s.dispatcher = .directed ∨ s.dispatcher = .autonomous →
        (¬ inRange → exec (.programStart h data) s = .next (s0.replied h 10 .badValue [])) ∧
        (inRange →
          (s.dispatcher = .directed →
            exec (.programStart h data) s = .next (({ s0 with program := begun } : State).replied h 10 .ok [])) ∧
          (s.dispatcher = .autonomous →
            exec (.programStart h data) s =
              .next ((({ s0 with program := begun } : State).scheduleClaims start s.schedule[start.toNat]).replied h 10
                .ok []) ∧
            ∃ t : State, exec (.programStart h data) s = .next (t.replied h 10 .ok []) ∧ t.program = begun))) ∧
      (s.program.running = false → exec (.programRenew h data) s = .next (s0.replied h 11 .wrongState [])) ∧
      (s.program.running = true →
        (¬ inRange → exec (.programRenew h data) s = .next (s0.replied h 11 .badValue [])) ∧
        (inRange → exec (.programRenew h data) s =
          .next (({ s0 with program := { s.program with pendingRun := some run } } : State).replied h 11 .ok [])))

/-- R161, R177, R178: COUNTER_WRITE, and the five actions of COUNTER_CONTROL. R156, R161: READ_CLEAR answers the eight
counters of its port and clears them as one event; the answer itself is placed, or dropped and counted, after the
clearing. -/
def Obligations.CounterRequestsAct : Prop :=
  (∀ (h : RequestHead) (s : State), s.TakesRequests →
    let s0 := s.heard .plant h.src
    (∀ data : List Byte, data.length ≤ 60 →
      (32 ≤ h.index.toNat → exec (.counterWrite h data) s = .next (s0.replied h 13 .badIndex [])) ∧
      (h.index.toNat < 32 → data.length ≠ 4 → exec (.counterWrite h data) s = .next (s0.replied h 13 .badValue [])) ∧
      (∀ (u : UnitNo) (n : CounterNo) (v : BitVec 32), h.index.toNat = u.val * 4 + n.val → data = wordBytes v →
        exec (.counterWrite h data) s =
          .next ((s0.updDuty u fun d => { d with value := d.value.set n.val v }).replied h 13 .ok []))) ∧
    exec (.globalFreezeSet h) s = .next (({ s0 with globalFreeze := true } : State).replied h 14 .ok []) ∧
    exec (.globalFreezeClear h) s = .next (({ s0 with globalFreeze := false } : State).replied h 14 .ok []) ∧
    (8 ≤ h.index.toNat →
      exec (.unitFreezeSet h) s = .next (s0.replied h 14 .badIndex []) ∧
      exec (.unitFreezeClear h) s = .next (s0.replied h 14 .badIndex []) ∧
      (h.index ≠ 0x00FF → exec (.clearOverflowLatches h) s = .next (s0.replied h 14 .badIndex []))) ∧
    (∀ u : UnitNo, u.val = h.index.toNat →
      exec (.unitFreezeSet h) s = .next ((s0.updDuty u fun d => { d with freeze := true }).replied h 14 .ok []) ∧
      exec (.unitFreezeClear h) s = .next ((s0.updDuty u fun d => { d with freeze := false }).replied h 14 .ok []) ∧
      exec (.clearOverflowLatches h) s =
        .next ((s0.updDuty u fun d => { d with latches := 0, summary := false }).replied h 14 .ok [])) ∧
    (h.index = 0x00FF → ∃ t : State, exec (.clearOverflowLatches h) s = .next (t.replied h 14 .ok []) ∧
      t = { s0 with duty := t.duty } ∧ ∀ u, t.dutyOf u = { s.dutyOf u with latches := 0, summary := false })) ∧
  (∀ (h : RequestHead) (data : List Byte) (s : State), s.TakesRequests → data.length ≤ 60 →
    let s0 := s.heard .plant h.src
    (1 < h.index.toNat → exec (.readClear h data) s = .next (s0.replied h 15 .badIndex [])) ∧
    (h.index.toNat ≤ 1 → data ≠ [] → exec (.readClear h data) s = .next (s0.replied h 15 .badValue [])) ∧
    (∀ p : PortName, h.index = (match p with | .plant => 0 | .unit => 1) → data = [] →
      let c := (s0.port p).counters
      exec (.readClear h data) s =
        .next ((s0.updCounters p fun _ => ⟨0, 0, 0, 0, 0, 0, 0, 0⟩).replied h 15 .ok
          (wordBytes c.receivedGood ++ wordBytes c.crcErrors ++ wordBytes c.malformed ++ wordBytes c.forwarded ++
            wordBytes c.droppedGuard ++ wordBytes c.droppedForeign ++ wordBytes c.originated ++
            wordBytes c.transmitDrops))))

/-- R169: RESET places its answer and sets RESET_PENDING; when the answer is dropped at its placing, the soft reset is
made within the same event, with the lines as last reported (log 5). The soft reset itself:
SoftResetWaitsForTheReport. -/
def Obligations.ResetWaitsForItsAnswer : Prop :=
  ∀ (h : RequestHead) (data : List Byte) (s : State), s.TakesRequests → data.length ≤ 60 →
    let s0 := s.heard .plant h.src
    (data ≠ [] → exec (.reset h data) s = .next (s0.replied h 16 .badValue [])) ∧
    (data = [] →
      (s.plantPort.originated.length < 16 → exec (.reset h data) s =
        .next { s0.replied h 16 .ok [] with resetPending := true }) ∧
      (16 ≤ s.plantPort.originated.length →
        exec (.reset h data) s = .next (s0.softResetEvent s.lines)))

/-! ## Invariants -/

/-- An event of unit u leaves what the Unit Monitor keeps of every other unit, adds no order, and leaves the tables, the
links, the alarms, the reserve lines and the dispatcher, but for the end of a drain (R126). The other events that
start or end claims leave what the Unit Monitor keeps of every unit, the tables, the links and the alarms; only an
assertion event touches the reserve lines. -/
def Obligations.EventsLeaveTheRest : Prop :=
  (∀ (c : Instr) (u : UnitNo) (s t : State),
    (c ∈ [.tripLineAsserted u, .tripLineCleared u, .outInputSet u, .outInputClear u, .unitSilenceExpiry u,
        .phaseDeadlineExpiry u, .waitDeadlineExpiry u] ∨
      (∃ dst src ident tag payload, c = .unitReport dst src ident tag payload ∧ ∀ v, s.unitAt src = some v → v = u) ∨
      ∃ h data, (c = .setOut h data ∨ c = .forceMode h data) ∧ s.TakesRequests ∧ h.index.toNat = u.val) →
    exec c s = .next t →
    s.KeepsTablesAndLinks t ∧ (∀ v, v ≠ u → s.KeepsUnit v t) ∧ s.KeepsAlarms t ∧ t.orders.Sublist s.orders ∧
      t.ageCount = s.ageCount ∧ t.reserveA = s.reserveA ∧ t.reserveB = s.reserveB ∧
      t.masterSilenceSeen = s.masterSilenceSeen ∧
      (t.dispatcher = s.dispatcher ∧ t.program = s.program ∨ s.dispatcher = .draining ∧ t.dispatcher = .unplanned)) ∧
  (∀ (c : Instr) (s t : State),
    (c ∈ [.masterSilenceExpiry, .rowDeadlineReached, .assertionEvent .a, .assertionEvent .b] ∨
      (∃ w, c = .settleDeadlineReached w) ∨ (∃ k, c = .orderExpiry k) ∨
      (∃ src ident tag payload, c = .dispatchOrder src ident tag payload) ∨
      ∃ h data, s.resetPending = false ∧ (c = .commit h data ∨ c = .uncommit h data ∨ c = .purgeOrder h data ∨
        c = .programStart h data ∨ c = .programRenew h data ∨ c = .programStop h data)) →
    exec c s = .next t →
    s.KeepsTablesAndLinks t ∧ (∀ v, s.KeepsUnit v t) ∧ s.KeepsAlarms t ∧
      (c ≠ .assertionEvent .a → t.reserveA = s.reserveA) ∧ (c ≠ .assertionEvent .b → t.reserveB = s.reserveB))

/-- R152, R155: both ports stay within their bounds, and a DOWN port stays empty. -/
def Obligations.PortsStayBounded : Prop :=
  ∀ s t : State, s.PortsBounded → step s = .next t → t.PortsBounded

/-- R41: the order queue keeps at most 16 orders and never two unit-targeted orders for one unit. -/
def Obligations.OrderQueueStaysSound : Prop :=
  ∀ s t : State, s.OrderQueueSound → step s = .next t → t.OrderQueueSound

/-- R144: a hold queue keeps at most 4 telegrams, and none while its unit has no transition in flight. -/
def Obligations.HoldQueuesStaySound : Prop :=
  ∀ s t : State, s.HoldQueuesSound → step s = .next t → t.HoldQueuesSound

/-- R117, R126: nothing waits, moves or is pending while the dispatcher is UNPLANNED, and a drain lasts exactly as long
as something is in flight or pending, with nothing queued. -/
def Obligations.DispatcherStateStaysSound : Prop :=
  ∀ s t : State, s.DispatcherStateSound → step s = .next t → t.DispatcherStateSound

/-- R119: while the dispatcher is in any state other than UNPLANNED, the plan tables do not change. -/
def Obligations.PlanStaysLocked : Prop :=
  ∀ s t : State, step s = .next t → s.dispatcher ≠ .unplanned → t.dispatcher ≠ .unplanned → t.plan = s.plan

/-- The invariants hold of the part as power-on reset leaves it. The part as power-on reset leaves it is a fixed point
of power-on reset (log 6, log 20). -/
def Obligations.ResetStateIsSound : Prop :=
  (State.reset.PortsBounded ∧ State.reset.OrderQueueSound ∧ State.reset.HoldQueuesSound ∧
    State.reset.DispatcherStateSound) ∧
  (exec (.powerOnReset { trip := 0, out := 0, reserveA := false, reserveB := false } false false) State.reset =
    .next State.reset)
end

