-- ==== Sys2Proof/Laws/State.lean ====
section
/-!
SUPPORT. One lemma per field per named update of the state, and what each accessor reads after each update.
-/

namespace Sys2Proof.Machine.State

variable (s : State)

/-! ## updUnit -/

@[simp] theorem updUnit_pending (u : UnitNo) (f : UnitRecord → UnitRecord) : (s.updUnit u f).pending = s.pending := rfl
@[simp] theorem updUnit_now (u : UnitNo) (f : UnitRecord → UnitRecord) : (s.updUnit u f).now = s.now := rfl
@[simp] theorem updUnit_freeCount (u : UnitNo) (f : UnitRecord → UnitRecord) : (s.updUnit u f).freeCount = s.freeCount := rfl
@[simp] theorem updUnit_requestSerial (u : UnitNo) (f : UnitRecord → UnitRecord) : (s.updUnit u f).requestSerial = s.requestSerial := rfl
@[simp] theorem updUnit_lines (u : UnitNo) (f : UnitRecord → UnitRecord) : (s.updUnit u f).lines = s.lines := rfl
@[simp] theorem updUnit_plantPort (u : UnitNo) (f : UnitRecord → UnitRecord) : (s.updUnit u f).plantPort = s.plantPort := rfl
@[simp] theorem updUnit_unitPort (u : UnitNo) (f : UnitRecord → UnitRecord) : (s.updUnit u f).unitPort = s.unitPort := rfl
@[simp] theorem updUnit_plan (u : UnitNo) (f : UnitRecord → UnitRecord) : (s.updUnit u f).plan = s.plan := rfl
@[simp] theorem updUnit_matchTable (u : UnitNo) (f : UnitRecord → UnitRecord) : (s.updUnit u f).matchTable = s.matchTable := rfl
@[simp] theorem updUnit_guardTable (u : UnitNo) (f : UnitRecord → UnitRecord) : (s.updUnit u f).guardTable = s.guardTable := rfl
@[simp] theorem updUnit_orders (u : UnitNo) (f : UnitRecord → UnitRecord) : (s.updUnit u f).orders = s.orders := rfl
@[simp] theorem updUnit_ageCount (u : UnitNo) (f : UnitRecord → UnitRecord) : (s.updUnit u f).ageCount = s.ageCount := rfl
@[simp] theorem updUnit_converters (u : UnitNo) (f : UnitRecord → UnitRecord) : (s.updUnit u f).converters = s.converters := rfl
@[simp] theorem updUnit_converterWait (u : UnitNo) (f : UnitRecord → UnitRecord) : (s.updUnit u f).converterWait = s.converterWait := rfl
@[simp] theorem updUnit_waterways (u : UnitNo) (f : UnitRecord → UnitRecord) : (s.updUnit u f).waterways = s.waterways := rfl
@[simp] theorem updUnit_reserveA (u : UnitNo) (f : UnitRecord → UnitRecord) : (s.updUnit u f).reserveA = s.reserveA := rfl
@[simp] theorem updUnit_reserveB (u : UnitNo) (f : UnitRecord → UnitRecord) : (s.updUnit u f).reserveB = s.reserveB := rfl
@[simp] theorem updUnit_dispatcher (u : UnitNo) (f : UnitRecord → UnitRecord) : (s.updUnit u f).dispatcher = s.dispatcher := rfl
@[simp] theorem updUnit_masterDeadline (u : UnitNo) (f : UnitRecord → UnitRecord) : (s.updUnit u f).masterDeadline = s.masterDeadline := rfl
@[simp] theorem updUnit_masterSilenceSeen (u : UnitNo) (f : UnitRecord → UnitRecord) : (s.updUnit u f).masterSilenceSeen = s.masterSilenceSeen := rfl
@[simp] theorem updUnit_schedule (u : UnitNo) (f : UnitRecord → UnitRecord) : (s.updUnit u f).schedule = s.schedule := rfl
@[simp] theorem updUnit_program (u : UnitNo) (f : UnitRecord → UnitRecord) : (s.updUnit u f).program = s.program := rfl
@[simp] theorem updUnit_resetPending (u : UnitNo) (f : UnitRecord → UnitRecord) : (s.updUnit u f).resetPending = s.resetPending := rfl
@[simp] theorem updUnit_duty (u : UnitNo) (f : UnitRecord → UnitRecord) : (s.updUnit u f).duty = s.duty := rfl
@[simp] theorem updUnit_globalFreeze (u : UnitNo) (f : UnitRecord → UnitRecord) : (s.updUnit u f).globalFreeze = s.globalFreeze := rfl

/-! ## updDuty -/

@[simp] theorem updDuty_pending (u : UnitNo) (f : Duty → Duty) : (s.updDuty u f).pending = s.pending := rfl
@[simp] theorem updDuty_now (u : UnitNo) (f : Duty → Duty) : (s.updDuty u f).now = s.now := rfl
@[simp] theorem updDuty_freeCount (u : UnitNo) (f : Duty → Duty) : (s.updDuty u f).freeCount = s.freeCount := rfl
@[simp] theorem updDuty_requestSerial (u : UnitNo) (f : Duty → Duty) : (s.updDuty u f).requestSerial = s.requestSerial := rfl
@[simp] theorem updDuty_lines (u : UnitNo) (f : Duty → Duty) : (s.updDuty u f).lines = s.lines := rfl
@[simp] theorem updDuty_plantPort (u : UnitNo) (f : Duty → Duty) : (s.updDuty u f).plantPort = s.plantPort := rfl
@[simp] theorem updDuty_unitPort (u : UnitNo) (f : Duty → Duty) : (s.updDuty u f).unitPort = s.unitPort := rfl
@[simp] theorem updDuty_plan (u : UnitNo) (f : Duty → Duty) : (s.updDuty u f).plan = s.plan := rfl
@[simp] theorem updDuty_matchTable (u : UnitNo) (f : Duty → Duty) : (s.updDuty u f).matchTable = s.matchTable := rfl
@[simp] theorem updDuty_guardTable (u : UnitNo) (f : Duty → Duty) : (s.updDuty u f).guardTable = s.guardTable := rfl
@[simp] theorem updDuty_units (u : UnitNo) (f : Duty → Duty) : (s.updDuty u f).units = s.units := rfl
@[simp] theorem updDuty_orders (u : UnitNo) (f : Duty → Duty) : (s.updDuty u f).orders = s.orders := rfl
@[simp] theorem updDuty_ageCount (u : UnitNo) (f : Duty → Duty) : (s.updDuty u f).ageCount = s.ageCount := rfl
@[simp] theorem updDuty_converters (u : UnitNo) (f : Duty → Duty) : (s.updDuty u f).converters = s.converters := rfl
@[simp] theorem updDuty_converterWait (u : UnitNo) (f : Duty → Duty) : (s.updDuty u f).converterWait = s.converterWait := rfl
@[simp] theorem updDuty_waterways (u : UnitNo) (f : Duty → Duty) : (s.updDuty u f).waterways = s.waterways := rfl
@[simp] theorem updDuty_reserveA (u : UnitNo) (f : Duty → Duty) : (s.updDuty u f).reserveA = s.reserveA := rfl
@[simp] theorem updDuty_reserveB (u : UnitNo) (f : Duty → Duty) : (s.updDuty u f).reserveB = s.reserveB := rfl
@[simp] theorem updDuty_dispatcher (u : UnitNo) (f : Duty → Duty) : (s.updDuty u f).dispatcher = s.dispatcher := rfl
@[simp] theorem updDuty_masterDeadline (u : UnitNo) (f : Duty → Duty) : (s.updDuty u f).masterDeadline = s.masterDeadline := rfl
@[simp] theorem updDuty_masterSilenceSeen (u : UnitNo) (f : Duty → Duty) : (s.updDuty u f).masterSilenceSeen = s.masterSilenceSeen := rfl
@[simp] theorem updDuty_schedule (u : UnitNo) (f : Duty → Duty) : (s.updDuty u f).schedule = s.schedule := rfl
@[simp] theorem updDuty_program (u : UnitNo) (f : Duty → Duty) : (s.updDuty u f).program = s.program := rfl
@[simp] theorem updDuty_resetPending (u : UnitNo) (f : Duty → Duty) : (s.updDuty u f).resetPending = s.resetPending := rfl
@[simp] theorem updDuty_globalFreeze (u : UnitNo) (f : Duty → Duty) : (s.updDuty u f).globalFreeze = s.globalFreeze := rfl

/-! ## updWaterway -/

@[simp] theorem updWaterway_pending (w : WaterwayNo) (f : Waterway → Waterway) : (s.updWaterway w f).pending = s.pending := rfl
@[simp] theorem updWaterway_now (w : WaterwayNo) (f : Waterway → Waterway) : (s.updWaterway w f).now = s.now := rfl
@[simp] theorem updWaterway_freeCount (w : WaterwayNo) (f : Waterway → Waterway) : (s.updWaterway w f).freeCount = s.freeCount := rfl
@[simp] theorem updWaterway_requestSerial (w : WaterwayNo) (f : Waterway → Waterway) : (s.updWaterway w f).requestSerial = s.requestSerial := rfl
@[simp] theorem updWaterway_lines (w : WaterwayNo) (f : Waterway → Waterway) : (s.updWaterway w f).lines = s.lines := rfl
@[simp] theorem updWaterway_plantPort (w : WaterwayNo) (f : Waterway → Waterway) : (s.updWaterway w f).plantPort = s.plantPort := rfl
@[simp] theorem updWaterway_unitPort (w : WaterwayNo) (f : Waterway → Waterway) : (s.updWaterway w f).unitPort = s.unitPort := rfl
@[simp] theorem updWaterway_plan (w : WaterwayNo) (f : Waterway → Waterway) : (s.updWaterway w f).plan = s.plan := rfl
@[simp] theorem updWaterway_matchTable (w : WaterwayNo) (f : Waterway → Waterway) : (s.updWaterway w f).matchTable = s.matchTable := rfl
@[simp] theorem updWaterway_guardTable (w : WaterwayNo) (f : Waterway → Waterway) : (s.updWaterway w f).guardTable = s.guardTable := rfl
@[simp] theorem updWaterway_units (w : WaterwayNo) (f : Waterway → Waterway) : (s.updWaterway w f).units = s.units := rfl
@[simp] theorem updWaterway_orders (w : WaterwayNo) (f : Waterway → Waterway) : (s.updWaterway w f).orders = s.orders := rfl
@[simp] theorem updWaterway_ageCount (w : WaterwayNo) (f : Waterway → Waterway) : (s.updWaterway w f).ageCount = s.ageCount := rfl
@[simp] theorem updWaterway_converters (w : WaterwayNo) (f : Waterway → Waterway) : (s.updWaterway w f).converters = s.converters := rfl
@[simp] theorem updWaterway_converterWait (w : WaterwayNo) (f : Waterway → Waterway) : (s.updWaterway w f).converterWait = s.converterWait := rfl
@[simp] theorem updWaterway_reserveA (w : WaterwayNo) (f : Waterway → Waterway) : (s.updWaterway w f).reserveA = s.reserveA := rfl
@[simp] theorem updWaterway_reserveB (w : WaterwayNo) (f : Waterway → Waterway) : (s.updWaterway w f).reserveB = s.reserveB := rfl
@[simp] theorem updWaterway_dispatcher (w : WaterwayNo) (f : Waterway → Waterway) : (s.updWaterway w f).dispatcher = s.dispatcher := rfl
@[simp] theorem updWaterway_masterDeadline (w : WaterwayNo) (f : Waterway → Waterway) : (s.updWaterway w f).masterDeadline = s.masterDeadline := rfl
@[simp] theorem updWaterway_masterSilenceSeen (w : WaterwayNo) (f : Waterway → Waterway) : (s.updWaterway w f).masterSilenceSeen = s.masterSilenceSeen := rfl
@[simp] theorem updWaterway_schedule (w : WaterwayNo) (f : Waterway → Waterway) : (s.updWaterway w f).schedule = s.schedule := rfl
@[simp] theorem updWaterway_program (w : WaterwayNo) (f : Waterway → Waterway) : (s.updWaterway w f).program = s.program := rfl
@[simp] theorem updWaterway_resetPending (w : WaterwayNo) (f : Waterway → Waterway) : (s.updWaterway w f).resetPending = s.resetPending := rfl
@[simp] theorem updWaterway_duty (w : WaterwayNo) (f : Waterway → Waterway) : (s.updWaterway w f).duty = s.duty := rfl
@[simp] theorem updWaterway_globalFreeze (w : WaterwayNo) (f : Waterway → Waterway) : (s.updWaterway w f).globalFreeze = s.globalFreeze := rfl

/-! ## setConverter -/

@[simp] theorem setConverter_pending (c : ConverterNo) (x : Option UnitNo) : (s.setConverter c x).pending = s.pending := rfl
@[simp] theorem setConverter_now (c : ConverterNo) (x : Option UnitNo) : (s.setConverter c x).now = s.now := rfl
@[simp] theorem setConverter_freeCount (c : ConverterNo) (x : Option UnitNo) : (s.setConverter c x).freeCount = s.freeCount := rfl
@[simp] theorem setConverter_requestSerial (c : ConverterNo) (x : Option UnitNo) : (s.setConverter c x).requestSerial = s.requestSerial := rfl
@[simp] theorem setConverter_lines (c : ConverterNo) (x : Option UnitNo) : (s.setConverter c x).lines = s.lines := rfl
@[simp] theorem setConverter_plantPort (c : ConverterNo) (x : Option UnitNo) : (s.setConverter c x).plantPort = s.plantPort := rfl
@[simp] theorem setConverter_unitPort (c : ConverterNo) (x : Option UnitNo) : (s.setConverter c x).unitPort = s.unitPort := rfl
@[simp] theorem setConverter_plan (c : ConverterNo) (x : Option UnitNo) : (s.setConverter c x).plan = s.plan := rfl
@[simp] theorem setConverter_matchTable (c : ConverterNo) (x : Option UnitNo) : (s.setConverter c x).matchTable = s.matchTable := rfl
@[simp] theorem setConverter_guardTable (c : ConverterNo) (x : Option UnitNo) : (s.setConverter c x).guardTable = s.guardTable := rfl
@[simp] theorem setConverter_units (c : ConverterNo) (x : Option UnitNo) : (s.setConverter c x).units = s.units := rfl
@[simp] theorem setConverter_orders (c : ConverterNo) (x : Option UnitNo) : (s.setConverter c x).orders = s.orders := rfl
@[simp] theorem setConverter_ageCount (c : ConverterNo) (x : Option UnitNo) : (s.setConverter c x).ageCount = s.ageCount := rfl
@[simp] theorem setConverter_converterWait (c : ConverterNo) (x : Option UnitNo) : (s.setConverter c x).converterWait = s.converterWait := rfl
@[simp] theorem setConverter_waterways (c : ConverterNo) (x : Option UnitNo) : (s.setConverter c x).waterways = s.waterways := rfl
@[simp] theorem setConverter_reserveA (c : ConverterNo) (x : Option UnitNo) : (s.setConverter c x).reserveA = s.reserveA := rfl
@[simp] theorem setConverter_reserveB (c : ConverterNo) (x : Option UnitNo) : (s.setConverter c x).reserveB = s.reserveB := rfl
@[simp] theorem setConverter_dispatcher (c : ConverterNo) (x : Option UnitNo) : (s.setConverter c x).dispatcher = s.dispatcher := rfl
@[simp] theorem setConverter_masterDeadline (c : ConverterNo) (x : Option UnitNo) : (s.setConverter c x).masterDeadline = s.masterDeadline := rfl
@[simp] theorem setConverter_masterSilenceSeen (c : ConverterNo) (x : Option UnitNo) : (s.setConverter c x).masterSilenceSeen = s.masterSilenceSeen := rfl
@[simp] theorem setConverter_schedule (c : ConverterNo) (x : Option UnitNo) : (s.setConverter c x).schedule = s.schedule := rfl
@[simp] theorem setConverter_program (c : ConverterNo) (x : Option UnitNo) : (s.setConverter c x).program = s.program := rfl
@[simp] theorem setConverter_resetPending (c : ConverterNo) (x : Option UnitNo) : (s.setConverter c x).resetPending = s.resetPending := rfl
@[simp] theorem setConverter_duty (c : ConverterNo) (x : Option UnitNo) : (s.setConverter c x).duty = s.duty := rfl
@[simp] theorem setConverter_globalFreeze (c : ConverterNo) (x : Option UnitNo) : (s.setConverter c x).globalFreeze = s.globalFreeze := rfl

/-! ## updPort -/

@[simp] theorem updPort_pending (p : PortName) (f : PortState → PortState) : (s.updPort p f).pending = s.pending := by cases p <;> rfl
@[simp] theorem updPort_now (p : PortName) (f : PortState → PortState) : (s.updPort p f).now = s.now := by cases p <;> rfl
@[simp] theorem updPort_freeCount (p : PortName) (f : PortState → PortState) : (s.updPort p f).freeCount = s.freeCount := by cases p <;> rfl
@[simp] theorem updPort_requestSerial (p : PortName) (f : PortState → PortState) : (s.updPort p f).requestSerial = s.requestSerial := by cases p <;> rfl
@[simp] theorem updPort_lines (p : PortName) (f : PortState → PortState) : (s.updPort p f).lines = s.lines := by cases p <;> rfl
@[simp] theorem updPort_plan (p : PortName) (f : PortState → PortState) : (s.updPort p f).plan = s.plan := by cases p <;> rfl
@[simp] theorem updPort_matchTable (p : PortName) (f : PortState → PortState) : (s.updPort p f).matchTable = s.matchTable := by cases p <;> rfl
@[simp] theorem updPort_guardTable (p : PortName) (f : PortState → PortState) : (s.updPort p f).guardTable = s.guardTable := by cases p <;> rfl
@[simp] theorem updPort_units (p : PortName) (f : PortState → PortState) : (s.updPort p f).units = s.units := by cases p <;> rfl
@[simp] theorem updPort_orders (p : PortName) (f : PortState → PortState) : (s.updPort p f).orders = s.orders := by cases p <;> rfl
@[simp] theorem updPort_ageCount (p : PortName) (f : PortState → PortState) : (s.updPort p f).ageCount = s.ageCount := by cases p <;> rfl
@[simp] theorem updPort_converters (p : PortName) (f : PortState → PortState) : (s.updPort p f).converters = s.converters := by cases p <;> rfl
@[simp] theorem updPort_converterWait (p : PortName) (f : PortState → PortState) : (s.updPort p f).converterWait = s.converterWait := by cases p <;> rfl
@[simp] theorem updPort_waterways (p : PortName) (f : PortState → PortState) : (s.updPort p f).waterways = s.waterways := by cases p <;> rfl
@[simp] theorem updPort_reserveA (p : PortName) (f : PortState → PortState) : (s.updPort p f).reserveA = s.reserveA := by cases p <;> rfl
@[simp] theorem updPort_reserveB (p : PortName) (f : PortState → PortState) : (s.updPort p f).reserveB = s.reserveB := by cases p <;> rfl
@[simp] theorem updPort_dispatcher (p : PortName) (f : PortState → PortState) : (s.updPort p f).dispatcher = s.dispatcher := by cases p <;> rfl
@[simp] theorem updPort_masterDeadline (p : PortName) (f : PortState → PortState) : (s.updPort p f).masterDeadline = s.masterDeadline := by cases p <;> rfl
@[simp] theorem updPort_masterSilenceSeen (p : PortName) (f : PortState → PortState) : (s.updPort p f).masterSilenceSeen = s.masterSilenceSeen := by cases p <;> rfl
@[simp] theorem updPort_schedule (p : PortName) (f : PortState → PortState) : (s.updPort p f).schedule = s.schedule := by cases p <;> rfl
@[simp] theorem updPort_program (p : PortName) (f : PortState → PortState) : (s.updPort p f).program = s.program := by cases p <;> rfl
@[simp] theorem updPort_resetPending (p : PortName) (f : PortState → PortState) : (s.updPort p f).resetPending = s.resetPending := by cases p <;> rfl
@[simp] theorem updPort_duty (p : PortName) (f : PortState → PortState) : (s.updPort p f).duty = s.duty := by cases p <;> rfl
@[simp] theorem updPort_globalFreeze (p : PortName) (f : PortState → PortState) : (s.updPort p f).globalFreeze = s.globalFreeze := by cases p <;> rfl

/-! ## updCounters -/

@[simp] theorem updCounters_pending (p : PortName) (f : Counters → Counters) : (s.updCounters p f).pending = s.pending := by cases p <;> rfl
@[simp] theorem updCounters_now (p : PortName) (f : Counters → Counters) : (s.updCounters p f).now = s.now := by cases p <;> rfl
@[simp] theorem updCounters_freeCount (p : PortName) (f : Counters → Counters) : (s.updCounters p f).freeCount = s.freeCount := by cases p <;> rfl
@[simp] theorem updCounters_requestSerial (p : PortName) (f : Counters → Counters) : (s.updCounters p f).requestSerial = s.requestSerial := by cases p <;> rfl
@[simp] theorem updCounters_lines (p : PortName) (f : Counters → Counters) : (s.updCounters p f).lines = s.lines := by cases p <;> rfl
@[simp] theorem updCounters_plan (p : PortName) (f : Counters → Counters) : (s.updCounters p f).plan = s.plan := by cases p <;> rfl
@[simp] theorem updCounters_matchTable (p : PortName) (f : Counters → Counters) : (s.updCounters p f).matchTable = s.matchTable := by cases p <;> rfl
@[simp] theorem updCounters_guardTable (p : PortName) (f : Counters → Counters) : (s.updCounters p f).guardTable = s.guardTable := by cases p <;> rfl
@[simp] theorem updCounters_units (p : PortName) (f : Counters → Counters) : (s.updCounters p f).units = s.units := by cases p <;> rfl
@[simp] theorem updCounters_orders (p : PortName) (f : Counters → Counters) : (s.updCounters p f).orders = s.orders := by cases p <;> rfl
@[simp] theorem updCounters_ageCount (p : PortName) (f : Counters → Counters) : (s.updCounters p f).ageCount = s.ageCount := by cases p <;> rfl
@[simp] theorem updCounters_converters (p : PortName) (f : Counters → Counters) : (s.updCounters p f).converters = s.converters := by cases p <;> rfl
@[simp] theorem updCounters_converterWait (p : PortName) (f : Counters → Counters) : (s.updCounters p f).converterWait = s.converterWait := by cases p <;> rfl
@[simp] theorem updCounters_waterways (p : PortName) (f : Counters → Counters) : (s.updCounters p f).waterways = s.waterways := by cases p <;> rfl
@[simp] theorem updCounters_reserveA (p : PortName) (f : Counters → Counters) : (s.updCounters p f).reserveA = s.reserveA := by cases p <;> rfl
@[simp] theorem updCounters_reserveB (p : PortName) (f : Counters → Counters) : (s.updCounters p f).reserveB = s.reserveB := by cases p <;> rfl
@[simp] theorem updCounters_dispatcher (p : PortName) (f : Counters → Counters) : (s.updCounters p f).dispatcher = s.dispatcher := by cases p <;> rfl
@[simp] theorem updCounters_masterDeadline (p : PortName) (f : Counters → Counters) : (s.updCounters p f).masterDeadline = s.masterDeadline := by cases p <;> rfl
@[simp] theorem updCounters_masterSilenceSeen (p : PortName) (f : Counters → Counters) : (s.updCounters p f).masterSilenceSeen = s.masterSilenceSeen := by cases p <;> rfl
@[simp] theorem updCounters_schedule (p : PortName) (f : Counters → Counters) : (s.updCounters p f).schedule = s.schedule := by cases p <;> rfl
@[simp] theorem updCounters_program (p : PortName) (f : Counters → Counters) : (s.updCounters p f).program = s.program := by cases p <;> rfl
@[simp] theorem updCounters_resetPending (p : PortName) (f : Counters → Counters) : (s.updCounters p f).resetPending = s.resetPending := by cases p <;> rfl
@[simp] theorem updCounters_duty (p : PortName) (f : Counters → Counters) : (s.updCounters p f).duty = s.duty := by cases p <;> rfl
@[simp] theorem updCounters_globalFreeze (p : PortName) (f : Counters → Counters) : (s.updCounters p f).globalFreeze = s.globalFreeze := by cases p <;> rfl

/-! ## updReserveLine -/

@[simp] theorem updReserveLine_pending (l : ReserveLine) (f : ReserveState → ReserveState) : (s.updReserveLine l f).pending = s.pending := by cases l <;> rfl
@[simp] theorem updReserveLine_now (l : ReserveLine) (f : ReserveState → ReserveState) : (s.updReserveLine l f).now = s.now := by cases l <;> rfl
@[simp] theorem updReserveLine_freeCount (l : ReserveLine) (f : ReserveState → ReserveState) : (s.updReserveLine l f).freeCount = s.freeCount := by cases l <;> rfl
@[simp] theorem updReserveLine_requestSerial (l : ReserveLine) (f : ReserveState → ReserveState) : (s.updReserveLine l f).requestSerial = s.requestSerial := by cases l <;> rfl
@[simp] theorem updReserveLine_lines (l : ReserveLine) (f : ReserveState → ReserveState) : (s.updReserveLine l f).lines = s.lines := by cases l <;> rfl
@[simp] theorem updReserveLine_plantPort (l : ReserveLine) (f : ReserveState → ReserveState) : (s.updReserveLine l f).plantPort = s.plantPort := by cases l <;> rfl
@[simp] theorem updReserveLine_unitPort (l : ReserveLine) (f : ReserveState → ReserveState) : (s.updReserveLine l f).unitPort = s.unitPort := by cases l <;> rfl
@[simp] theorem updReserveLine_plan (l : ReserveLine) (f : ReserveState → ReserveState) : (s.updReserveLine l f).plan = s.plan := by cases l <;> rfl
@[simp] theorem updReserveLine_matchTable (l : ReserveLine) (f : ReserveState → ReserveState) : (s.updReserveLine l f).matchTable = s.matchTable := by cases l <;> rfl
@[simp] theorem updReserveLine_guardTable (l : ReserveLine) (f : ReserveState → ReserveState) : (s.updReserveLine l f).guardTable = s.guardTable := by cases l <;> rfl
@[simp] theorem updReserveLine_units (l : ReserveLine) (f : ReserveState → ReserveState) : (s.updReserveLine l f).units = s.units := by cases l <;> rfl
@[simp] theorem updReserveLine_orders (l : ReserveLine) (f : ReserveState → ReserveState) : (s.updReserveLine l f).orders = s.orders := by cases l <;> rfl
@[simp] theorem updReserveLine_ageCount (l : ReserveLine) (f : ReserveState → ReserveState) : (s.updReserveLine l f).ageCount = s.ageCount := by cases l <;> rfl
@[simp] theorem updReserveLine_converters (l : ReserveLine) (f : ReserveState → ReserveState) : (s.updReserveLine l f).converters = s.converters := by cases l <;> rfl
@[simp] theorem updReserveLine_converterWait (l : ReserveLine) (f : ReserveState → ReserveState) : (s.updReserveLine l f).converterWait = s.converterWait := by cases l <;> rfl
@[simp] theorem updReserveLine_waterways (l : ReserveLine) (f : ReserveState → ReserveState) : (s.updReserveLine l f).waterways = s.waterways := by cases l <;> rfl
@[simp] theorem updReserveLine_dispatcher (l : ReserveLine) (f : ReserveState → ReserveState) : (s.updReserveLine l f).dispatcher = s.dispatcher := by cases l <;> rfl
@[simp] theorem updReserveLine_masterDeadline (l : ReserveLine) (f : ReserveState → ReserveState) : (s.updReserveLine l f).masterDeadline = s.masterDeadline := by cases l <;> rfl
@[simp] theorem updReserveLine_masterSilenceSeen (l : ReserveLine) (f : ReserveState → ReserveState) : (s.updReserveLine l f).masterSilenceSeen = s.masterSilenceSeen := by cases l <;> rfl
@[simp] theorem updReserveLine_schedule (l : ReserveLine) (f : ReserveState → ReserveState) : (s.updReserveLine l f).schedule = s.schedule := by cases l <;> rfl
@[simp] theorem updReserveLine_program (l : ReserveLine) (f : ReserveState → ReserveState) : (s.updReserveLine l f).program = s.program := by cases l <;> rfl
@[simp] theorem updReserveLine_resetPending (l : ReserveLine) (f : ReserveState → ReserveState) : (s.updReserveLine l f).resetPending = s.resetPending := by cases l <;> rfl
@[simp] theorem updReserveLine_duty (l : ReserveLine) (f : ReserveState → ReserveState) : (s.updReserveLine l f).duty = s.duty := by cases l <;> rfl
@[simp] theorem updReserveLine_globalFreeze (l : ReserveLine) (f : ReserveState → ReserveState) : (s.updReserveLine l f).globalFreeze = s.globalFreeze := by cases l <;> rfl

/-! ## Accessors after updates -/

@[simp] theorem unit_updUnit_self (u : UnitNo) (f : UnitRecord → UnitRecord) : (s.updUnit u f).unit u = f (s.unit u) := by
  simp [unit, updUnit]

theorem unit_updUnit_of_ne {u v : UnitNo} (h : v ≠ u) (f : UnitRecord → UnitRecord) :
    (s.updUnit u f).unit v = s.unit v := by
  simp [unit, updUnit, Fin.val_ne_of_ne (Ne.symm h)]

/-- Reading unit v after an update of unit u. -/
theorem unit_updUnit (u v : UnitNo) (f : UnitRecord → UnitRecord) :
    (s.updUnit u f).unit v = if v = u then f (s.unit v) else s.unit v := by
  by_cases h : v = u
  · subst h; simp
  · simp [h, unit_updUnit_of_ne]

@[simp] theorem dutyOf_updDuty_self (u : UnitNo) (f : Duty → Duty) : (s.updDuty u f).dutyOf u = f (s.dutyOf u) := by
  simp [dutyOf, updDuty]

theorem dutyOf_updDuty_of_ne {u v : UnitNo} (h : v ≠ u) (f : Duty → Duty) : (s.updDuty u f).dutyOf v = s.dutyOf v := by
  simp [dutyOf, updDuty, Fin.val_ne_of_ne (Ne.symm h)]

@[simp] theorem waterway_updWaterway_self (w : WaterwayNo) (f : Waterway → Waterway) :
    (s.updWaterway w f).waterway w = f (s.waterway w) := by
  simp [waterway, updWaterway]

theorem waterway_updWaterway_of_ne {w v : WaterwayNo} (h : v ≠ w) (f : Waterway → Waterway) :
    (s.updWaterway w f).waterway v = s.waterway v := by
  simp [waterway, updWaterway, Fin.val_ne_of_ne (Ne.symm h)]

@[simp] theorem port_updPort_self (p : PortName) (f : PortState → PortState) : (s.updPort p f).port p = f (s.port p) := by
  cases p <;> rfl

theorem port_updPort_of_ne {p q : PortName} (h : q ≠ p) (f : PortState → PortState) :
    (s.updPort p f).port q = s.port q := by
  cases p <;> cases q <;> first | rfl | exact absurd rfl h

@[simp] theorem reserveLine_updReserveLine_self (l : ReserveLine) (f : ReserveState → ReserveState) :
    (s.updReserveLine l f).reserveLine l = f (s.reserveLine l) := by
  cases l <;> rfl

theorem reserveLine_updReserveLine_of_ne {l m : ReserveLine} (h : m ≠ l) (f : ReserveState → ReserveState) :
    (s.updReserveLine l f).reserveLine m = s.reserveLine m := by
  cases l <;> cases m <;> first | rfl | exact absurd rfl h

@[simp] theorem dutyOf_updUnit (u : UnitNo) (f : UnitRecord → UnitRecord) (v : UnitNo) : (s.updUnit u f).dutyOf v = s.dutyOf v := rfl
@[simp] theorem waterway_updUnit (u : UnitNo) (f : UnitRecord → UnitRecord) (v : WaterwayNo) : (s.updUnit u f).waterway v = s.waterway v := rfl
@[simp] theorem converter_updUnit (u : UnitNo) (f : UnitRecord → UnitRecord) (v : ConverterNo) : (s.updUnit u f).converter v = s.converter v := rfl
@[simp] theorem port_updUnit (u : UnitNo) (f : UnitRecord → UnitRecord) (v : PortName) : (s.updUnit u f).port v = s.port v := by cases v <;> rfl
@[simp] theorem reserveLine_updUnit (u : UnitNo) (f : UnitRecord → UnitRecord) (v : ReserveLine) : (s.updUnit u f).reserveLine v = s.reserveLine v := by cases v <;> rfl
@[simp] theorem unit_updDuty (u : UnitNo) (f : Duty → Duty) (v : UnitNo) : (s.updDuty u f).unit v = s.unit v := rfl
@[simp] theorem waterway_updDuty (u : UnitNo) (f : Duty → Duty) (v : WaterwayNo) : (s.updDuty u f).waterway v = s.waterway v := rfl
@[simp] theorem converter_updDuty (u : UnitNo) (f : Duty → Duty) (v : ConverterNo) : (s.updDuty u f).converter v = s.converter v := rfl
@[simp] theorem port_updDuty (u : UnitNo) (f : Duty → Duty) (v : PortName) : (s.updDuty u f).port v = s.port v := by cases v <;> rfl
@[simp] theorem reserveLine_updDuty (u : UnitNo) (f : Duty → Duty) (v : ReserveLine) : (s.updDuty u f).reserveLine v = s.reserveLine v := by cases v <;> rfl
@[simp] theorem unit_updWaterway (w : WaterwayNo) (f : Waterway → Waterway) (v : UnitNo) : (s.updWaterway w f).unit v = s.unit v := rfl
@[simp] theorem dutyOf_updWaterway (w : WaterwayNo) (f : Waterway → Waterway) (v : UnitNo) : (s.updWaterway w f).dutyOf v = s.dutyOf v := rfl
@[simp] theorem converter_updWaterway (w : WaterwayNo) (f : Waterway → Waterway) (v : ConverterNo) : (s.updWaterway w f).converter v = s.converter v := rfl
@[simp] theorem port_updWaterway (w : WaterwayNo) (f : Waterway → Waterway) (v : PortName) : (s.updWaterway w f).port v = s.port v := by cases v <;> rfl
@[simp] theorem reserveLine_updWaterway (w : WaterwayNo) (f : Waterway → Waterway) (v : ReserveLine) : (s.updWaterway w f).reserveLine v = s.reserveLine v := by cases v <;> rfl
@[simp] theorem unit_setConverter (c : ConverterNo) (x : Option UnitNo) (v : UnitNo) : (s.setConverter c x).unit v = s.unit v := rfl
@[simp] theorem dutyOf_setConverter (c : ConverterNo) (x : Option UnitNo) (v : UnitNo) : (s.setConverter c x).dutyOf v = s.dutyOf v := rfl
@[simp] theorem waterway_setConverter (c : ConverterNo) (x : Option UnitNo) (v : WaterwayNo) : (s.setConverter c x).waterway v = s.waterway v := rfl
@[simp] theorem port_setConverter (c : ConverterNo) (x : Option UnitNo) (v : PortName) : (s.setConverter c x).port v = s.port v := by cases v <;> rfl
@[simp] theorem reserveLine_setConverter (c : ConverterNo) (x : Option UnitNo) (v : ReserveLine) : (s.setConverter c x).reserveLine v = s.reserveLine v := by cases v <;> rfl
@[simp] theorem unit_updPort (p : PortName) (f : PortState → PortState) (v : UnitNo) : (s.updPort p f).unit v = s.unit v := by cases p <;> rfl
@[simp] theorem dutyOf_updPort (p : PortName) (f : PortState → PortState) (v : UnitNo) : (s.updPort p f).dutyOf v = s.dutyOf v := by cases p <;> rfl
@[simp] theorem waterway_updPort (p : PortName) (f : PortState → PortState) (v : WaterwayNo) : (s.updPort p f).waterway v = s.waterway v := by cases p <;> rfl
@[simp] theorem converter_updPort (p : PortName) (f : PortState → PortState) (v : ConverterNo) : (s.updPort p f).converter v = s.converter v := by cases p <;> rfl
@[simp] theorem reserveLine_updPort (p : PortName) (f : PortState → PortState) (v : ReserveLine) : (s.updPort p f).reserveLine v = s.reserveLine v := by cases p <;> cases v <;> rfl
@[simp] theorem unit_updCounters (p : PortName) (f : Counters → Counters) (v : UnitNo) : (s.updCounters p f).unit v = s.unit v := by cases p <;> rfl
@[simp] theorem dutyOf_updCounters (p : PortName) (f : Counters → Counters) (v : UnitNo) : (s.updCounters p f).dutyOf v = s.dutyOf v := by cases p <;> rfl
@[simp] theorem waterway_updCounters (p : PortName) (f : Counters → Counters) (v : WaterwayNo) : (s.updCounters p f).waterway v = s.waterway v := by cases p <;> rfl
@[simp] theorem converter_updCounters (p : PortName) (f : Counters → Counters) (v : ConverterNo) : (s.updCounters p f).converter v = s.converter v := by cases p <;> rfl
@[simp] theorem reserveLine_updCounters (p : PortName) (f : Counters → Counters) (v : ReserveLine) : (s.updCounters p f).reserveLine v = s.reserveLine v := by cases p <;> cases v <;> rfl
@[simp] theorem unit_updReserveLine (l : ReserveLine) (f : ReserveState → ReserveState) (v : UnitNo) : (s.updReserveLine l f).unit v = s.unit v := by cases l <;> rfl
@[simp] theorem dutyOf_updReserveLine (l : ReserveLine) (f : ReserveState → ReserveState) (v : UnitNo) : (s.updReserveLine l f).dutyOf v = s.dutyOf v := by cases l <;> rfl
@[simp] theorem waterway_updReserveLine (l : ReserveLine) (f : ReserveState → ReserveState) (v : WaterwayNo) : (s.updReserveLine l f).waterway v = s.waterway v := by cases l <;> rfl
@[simp] theorem converter_updReserveLine (l : ReserveLine) (f : ReserveState → ReserveState) (v : ConverterNo) : (s.updReserveLine l f).converter v = s.converter v := by cases l <;> rfl
@[simp] theorem port_updReserveLine (l : ReserveLine) (f : ReserveState → ReserveState) (v : PortName) : (s.updReserveLine l f).port v = s.port v := by cases l <;> cases v <;> rfl

/-! ## What originate and forwardTo do -/

@[simp] theorem originate_pending (p : PortName) (t : Telegram) : (s.originate p t).pending = s.pending := by
  unfold originate; split <;> simp [countTransmitDrops]
@[simp] theorem originate_now (p : PortName) (t : Telegram) : (s.originate p t).now = s.now := by
  unfold originate; split <;> simp [countTransmitDrops]
@[simp] theorem originate_freeCount (p : PortName) (t : Telegram) : (s.originate p t).freeCount = s.freeCount := by
  unfold originate; split <;> simp [countTransmitDrops]
@[simp] theorem originate_requestSerial (p : PortName) (t : Telegram) : (s.originate p t).requestSerial = s.requestSerial := by
  unfold originate; split <;> simp [countTransmitDrops]
@[simp] theorem originate_lines (p : PortName) (t : Telegram) : (s.originate p t).lines = s.lines := by
  unfold originate; split <;> simp [countTransmitDrops]
@[simp] theorem originate_plan (p : PortName) (t : Telegram) : (s.originate p t).plan = s.plan := by
  unfold originate; split <;> simp [countTransmitDrops]
@[simp] theorem originate_matchTable (p : PortName) (t : Telegram) : (s.originate p t).matchTable = s.matchTable := by
  unfold originate; split <;> simp [countTransmitDrops]
@[simp] theorem originate_guardTable (p : PortName) (t : Telegram) : (s.originate p t).guardTable = s.guardTable := by
  unfold originate; split <;> simp [countTransmitDrops]
@[simp] theorem originate_units (p : PortName) (t : Telegram) : (s.originate p t).units = s.units := by
  unfold originate; split <;> simp [countTransmitDrops]
@[simp] theorem originate_orders (p : PortName) (t : Telegram) : (s.originate p t).orders = s.orders := by
  unfold originate; split <;> simp [countTransmitDrops]
@[simp] theorem originate_ageCount (p : PortName) (t : Telegram) : (s.originate p t).ageCount = s.ageCount := by
  unfold originate; split <;> simp [countTransmitDrops]
@[simp] theorem originate_converters (p : PortName) (t : Telegram) : (s.originate p t).converters = s.converters := by
  unfold originate; split <;> simp [countTransmitDrops]
@[simp] theorem originate_converterWait (p : PortName) (t : Telegram) : (s.originate p t).converterWait = s.converterWait := by
  unfold originate; split <;> simp [countTransmitDrops]
@[simp] theorem originate_waterways (p : PortName) (t : Telegram) : (s.originate p t).waterways = s.waterways := by
  unfold originate; split <;> simp [countTransmitDrops]
@[simp] theorem originate_reserveA (p : PortName) (t : Telegram) : (s.originate p t).reserveA = s.reserveA := by
  unfold originate; split <;> simp [countTransmitDrops]
@[simp] theorem originate_reserveB (p : PortName) (t : Telegram) : (s.originate p t).reserveB = s.reserveB := by
  unfold originate; split <;> simp [countTransmitDrops]
@[simp] theorem originate_dispatcher (p : PortName) (t : Telegram) : (s.originate p t).dispatcher = s.dispatcher := by
  unfold originate; split <;> simp [countTransmitDrops]
@[simp] theorem originate_masterDeadline (p : PortName) (t : Telegram) : (s.originate p t).masterDeadline = s.masterDeadline := by
  unfold originate; split <;> simp [countTransmitDrops]
@[simp] theorem originate_masterSilenceSeen (p : PortName) (t : Telegram) : (s.originate p t).masterSilenceSeen = s.masterSilenceSeen := by
  unfold originate; split <;> simp [countTransmitDrops]
@[simp] theorem originate_schedule (p : PortName) (t : Telegram) : (s.originate p t).schedule = s.schedule := by
  unfold originate; split <;> simp [countTransmitDrops]
@[simp] theorem originate_program (p : PortName) (t : Telegram) : (s.originate p t).program = s.program := by
  unfold originate; split <;> simp [countTransmitDrops]
@[simp] theorem originate_resetPending (p : PortName) (t : Telegram) : (s.originate p t).resetPending = s.resetPending := by
  unfold originate; split <;> simp [countTransmitDrops]
@[simp] theorem originate_duty (p : PortName) (t : Telegram) : (s.originate p t).duty = s.duty := by
  unfold originate; split <;> simp [countTransmitDrops]
@[simp] theorem originate_globalFreeze (p : PortName) (t : Telegram) : (s.originate p t).globalFreeze = s.globalFreeze := by
  unfold originate; split <;> simp [countTransmitDrops]
@[simp] theorem unit_originate (p : PortName) (t : Telegram) (v : UnitNo) : (s.originate p t).unit v = s.unit v := by
  unfold originate; split <;> simp [countTransmitDrops]
@[simp] theorem dutyOf_originate (p : PortName) (t : Telegram) (v : UnitNo) : (s.originate p t).dutyOf v = s.dutyOf v := by
  unfold originate; split <;> simp [countTransmitDrops]
@[simp] theorem waterway_originate (p : PortName) (t : Telegram) (v : WaterwayNo) : (s.originate p t).waterway v = s.waterway v := by
  unfold originate; split <;> simp [countTransmitDrops]
@[simp] theorem converter_originate (p : PortName) (t : Telegram) (v : ConverterNo) : (s.originate p t).converter v = s.converter v := by
  unfold originate; split <;> simp [countTransmitDrops]
@[simp] theorem reserveLine_originate (p : PortName) (t : Telegram) (v : ReserveLine) : (s.originate p t).reserveLine v = s.reserveLine v := by
  unfold originate; split <;> simp [countTransmitDrops]
@[simp] theorem forwardTo_pending (p : PortName) (t : Telegram) : (s.forwardTo p t).pending = s.pending := by
  unfold forwardTo; split <;> simp [countTransmitDrops]
@[simp] theorem forwardTo_now (p : PortName) (t : Telegram) : (s.forwardTo p t).now = s.now := by
  unfold forwardTo; split <;> simp [countTransmitDrops]
@[simp] theorem forwardTo_freeCount (p : PortName) (t : Telegram) : (s.forwardTo p t).freeCount = s.freeCount := by
  unfold forwardTo; split <;> simp [countTransmitDrops]
@[simp] theorem forwardTo_requestSerial (p : PortName) (t : Telegram) : (s.forwardTo p t).requestSerial = s.requestSerial := by
  unfold forwardTo; split <;> simp [countTransmitDrops]
@[simp] theorem forwardTo_lines (p : PortName) (t : Telegram) : (s.forwardTo p t).lines = s.lines := by
  unfold forwardTo; split <;> simp [countTransmitDrops]
@[simp] theorem forwardTo_plan (p : PortName) (t : Telegram) : (s.forwardTo p t).plan = s.plan := by
  unfold forwardTo; split <;> simp [countTransmitDrops]
@[simp] theorem forwardTo_matchTable (p : PortName) (t : Telegram) : (s.forwardTo p t).matchTable = s.matchTable := by
  unfold forwardTo; split <;> simp [countTransmitDrops]
@[simp] theorem forwardTo_guardTable (p : PortName) (t : Telegram) : (s.forwardTo p t).guardTable = s.guardTable := by
  unfold forwardTo; split <;> simp [countTransmitDrops]
@[simp] theorem forwardTo_units (p : PortName) (t : Telegram) : (s.forwardTo p t).units = s.units := by
  unfold forwardTo; split <;> simp [countTransmitDrops]
@[simp] theorem forwardTo_orders (p : PortName) (t : Telegram) : (s.forwardTo p t).orders = s.orders := by
  unfold forwardTo; split <;> simp [countTransmitDrops]
@[simp] theorem forwardTo_ageCount (p : PortName) (t : Telegram) : (s.forwardTo p t).ageCount = s.ageCount := by
  unfold forwardTo; split <;> simp [countTransmitDrops]
@[simp] theorem forwardTo_converters (p : PortName) (t : Telegram) : (s.forwardTo p t).converters = s.converters := by
  unfold forwardTo; split <;> simp [countTransmitDrops]
@[simp] theorem forwardTo_converterWait (p : PortName) (t : Telegram) : (s.forwardTo p t).converterWait = s.converterWait := by
  unfold forwardTo; split <;> simp [countTransmitDrops]
@[simp] theorem forwardTo_waterways (p : PortName) (t : Telegram) : (s.forwardTo p t).waterways = s.waterways := by
  unfold forwardTo; split <;> simp [countTransmitDrops]
@[simp] theorem forwardTo_reserveA (p : PortName) (t : Telegram) : (s.forwardTo p t).reserveA = s.reserveA := by
  unfold forwardTo; split <;> simp [countTransmitDrops]
@[simp] theorem forwardTo_reserveB (p : PortName) (t : Telegram) : (s.forwardTo p t).reserveB = s.reserveB := by
  unfold forwardTo; split <;> simp [countTransmitDrops]
@[simp] theorem forwardTo_dispatcher (p : PortName) (t : Telegram) : (s.forwardTo p t).dispatcher = s.dispatcher := by
  unfold forwardTo; split <;> simp [countTransmitDrops]
@[simp] theorem forwardTo_masterDeadline (p : PortName) (t : Telegram) : (s.forwardTo p t).masterDeadline = s.masterDeadline := by
  unfold forwardTo; split <;> simp [countTransmitDrops]
@[simp] theorem forwardTo_masterSilenceSeen (p : PortName) (t : Telegram) : (s.forwardTo p t).masterSilenceSeen = s.masterSilenceSeen := by
  unfold forwardTo; split <;> simp [countTransmitDrops]
@[simp] theorem forwardTo_schedule (p : PortName) (t : Telegram) : (s.forwardTo p t).schedule = s.schedule := by
  unfold forwardTo; split <;> simp [countTransmitDrops]
@[simp] theorem forwardTo_program (p : PortName) (t : Telegram) : (s.forwardTo p t).program = s.program := by
  unfold forwardTo; split <;> simp [countTransmitDrops]
@[simp] theorem forwardTo_resetPending (p : PortName) (t : Telegram) : (s.forwardTo p t).resetPending = s.resetPending := by
  unfold forwardTo; split <;> simp [countTransmitDrops]
@[simp] theorem forwardTo_duty (p : PortName) (t : Telegram) : (s.forwardTo p t).duty = s.duty := by
  unfold forwardTo; split <;> simp [countTransmitDrops]
@[simp] theorem forwardTo_globalFreeze (p : PortName) (t : Telegram) : (s.forwardTo p t).globalFreeze = s.globalFreeze := by
  unfold forwardTo; split <;> simp [countTransmitDrops]
@[simp] theorem unit_forwardTo (p : PortName) (t : Telegram) (v : UnitNo) : (s.forwardTo p t).unit v = s.unit v := by
  unfold forwardTo; split <;> simp [countTransmitDrops]
@[simp] theorem dutyOf_forwardTo (p : PortName) (t : Telegram) (v : UnitNo) : (s.forwardTo p t).dutyOf v = s.dutyOf v := by
  unfold forwardTo; split <;> simp [countTransmitDrops]
@[simp] theorem waterway_forwardTo (p : PortName) (t : Telegram) (v : WaterwayNo) : (s.forwardTo p t).waterway v = s.waterway v := by
  unfold forwardTo; split <;> simp [countTransmitDrops]
@[simp] theorem converter_forwardTo (p : PortName) (t : Telegram) (v : ConverterNo) : (s.forwardTo p t).converter v = s.converter v := by
  unfold forwardTo; split <;> simp [countTransmitDrops]
@[simp] theorem reserveLine_forwardTo (p : PortName) (t : Telegram) (v : ReserveLine) : (s.forwardTo p t).reserveLine v = s.reserveLine v := by
  unfold forwardTo; split <;> simp [countTransmitDrops]

end Sys2Proof.Machine.State
end

