-- ==== Sys2Proof/Laws/Claims.lean ====
section
/-!
SUPPORT. Waiting claims: a start attempt needs no more rounds than there are claims (R53 to R55), and what the Unit Monitor does to them when their unit trips or is taken out, in the terms of the statements (R6, R13, R17).
-/

namespace Sys2Proof.Machine.State

variable {s : State} {u : UnitNo}

/-! ## The rounds of a start attempt -/

/-- The claims that a start attempt for unit u can still take away. -/
def claimsLeft (u : UnitNo) (s : State) : Nat := s.orders.length + if (s.unit u).reserveClaim = none then 0 else 1

theorem bestCandidate_position {k j : Nat} {os : List Order} {o : Order}
    (h : s.bestCandidate u k os = some (j, o)) : k ≤ j ∧ j < k + os.length := by
  induction os generalizing k j o with
  | nil => simp [bestCandidate] at h
  | cons q os ih =>
    simp only [bestCandidate] at h
    cases hb : s.bestCandidate u (k + 1) os with
    | none =>
      simp only [hb] at h
      split at h
      · simp only [Option.some.injEq, Prod.mk.injEq] at h
        simp only [List.length_cons]
        omega
      · cases h
    | some b =>
      obtain ⟨i, p⟩ := b
      have hi := ih hb
      simp only [hb] at h
      simp only [List.length_cons]
      split at h <;> simp only [Option.some.injEq, Prod.mk.injEq] at h <;> omega

/-- Where the claim that a start attempt takes stands. -/
theorem takenClaim_slot {slot : Slot} {c : Claim} (h : s.takenClaim u = some (slot, c)) :
    (slot = .reserve ∧ (s.unit u).reserveClaim ≠ none) ∨
      ∃ k, slot = .queue k ∧ k < s.orders.length ∧ (s.unit u).reserveClaim = none := by
  unfold takenClaim at h
  cases hr : (s.unit u).reserveClaim with
  | some x =>
    simp only [hr, Option.some.injEq, Prod.mk.injEq] at h
    exact .inl ⟨h.1.symm, by simp⟩
  | none =>
    simp only [hr] at h
    cases hb : s.bestCandidate u 0 s.orders with
    | none => simp [hb] at h
    | some b =>
      obtain ⟨k, o⟩ := b
      simp only [hb, Option.some.injEq, Prod.mk.injEq] at h
      have hk := bestCandidate_position hb
      exact .inr ⟨k, h.1.symm, by omega, rfl⟩

@[simp] theorem settleSetpoint_orders (m : Mode) (sp : Half) : (s.settleSetpoint u m sp).orders = s.orders := by
  unfold settleSetpoint sendSetpointCommand sendUnitCommand
  split <;> simp

@[simp] theorem settleSetpoint_reserveClaim (m : Mode) (sp : Half) (v : UnitNo) :
    ((s.settleSetpoint u m sp).unit v).reserveClaim = (s.unit v).reserveClaim := by
  unfold settleSetpoint sendSetpointCommand sendUnitCommand
  split
  · simp only [unit_updUnit, unit_originate]
    split <;> simp_all
  · rfl

/-- A claim that is taken and leaves is one fewer. -/
theorem claimsLeft_removeClaim {slot : Slot} {c : Claim} {t : State} (h : s.takenClaim u = some (slot, c))
    (ho : t.orders = s.orders) (hr : (t.unit u).reserveClaim = (s.unit u).reserveClaim) :
    (t.removeClaim u slot).claimsLeft u + 1 = s.claimsLeft u := by
  rcases takenClaim_slot h with ⟨rfl, hc⟩ | ⟨k, rfl, hk, hc⟩
  · simp [removeClaim, claimsLeft, ho, hc]
  · have hl : ({ t with orders := t.orders.eraseIdx k } : State).orders.length + 1 = s.orders.length := by
      simp only [ho, List.length_eraseIdx, hk, if_true]
      omega
    have hu : (({ t with orders := t.orders.eraseIdx k } : State).unit u).reserveClaim = none := hr.trans hc
    simp only [removeClaim, claimsLeft, hu, hc, if_true]
    omega

theorem claimsLeft_sendClaimStatus (v : UnitNo) (c : Claim) (st : Status) (r : Reason) :
    (s.sendClaimStatus v c st r).claimsLeft u = s.claimsLeft u := by
  simp [sendClaimStatus, sendStatus, claimsLeft]

theorem claimsLeft_completeAtOnce {slot : Slot} {c : Claim} (h : s.takenClaim u = some (slot, c)) :
    (s.completeAtOnce u slot c).claimsLeft u + 1 = s.claimsLeft u := by
  rw [completeAtOnce, claimsLeft_sendClaimStatus]
  exact claimsLeft_removeClaim h (by simp) (by simp)

theorem claimsLeft_failNoRoute {slot : Slot} {c : Claim} (h : s.takenClaim u = some (slot, c)) :
    (s.failNoRoute u slot c).claimsLeft u + 1 = s.claimsLeft u := by
  rw [failNoRoute, claimsLeft_sendClaimStatus]
  exact claimsLeft_removeClaim h rfl rfl

/-- With a round for each claim and one more, a start attempt has all the rounds it can use. -/
theorem attemptLoop_rounds {n k : Nat} (hn : s.claimsLeft u < n) (hk : s.claimsLeft u < k) :
    attemptLoop n u s = attemptLoop k u s := by
  induction n generalizing s k with
  | zero => omega
  | succ n ih =>
    obtain ⟨k, rfl⟩ : ∃ i, k = i + 1 := ⟨k - 1, by omega⟩
    unfold attemptLoop
    dsimp only
    cases (s.unit u).mode with
    | tripped => rfl
    | out => rfl
    | unknown => rfl
    | settled m =>
      dsimp only
      split
      · rfl
      · cases ht : s.takenClaim u with
        | none => rfl
        | some sc =>
          obtain ⟨slot, c⟩ := sc
          dsimp only
          split
          · have hl := claimsLeft_completeAtOnce ht
            rw [ih (k := k) (by omega) (by omega)]
          · cases s.lookupRoute u m c.mode with
            | some r => rfl
            | none =>
              have hl := claimsLeft_failNoRoute ht
              dsimp only
              rw [ih (k := k) (by omega) (by omega)]

/-- A start attempt's rounds suffice, whatever larger number of them is allowed (R53 to R55). -/
theorem attemptUnit_rounds {n : Nat} (hn : s.claimsLeft u < n) : s.attemptUnit u = attemptLoop n u s :=
  attemptLoop_rounds (by unfold claimsLeft; split <;> omega) hn

/-! ## A report, a trip, and the claims that fail -/

theorem commonReport_eq (rep : Report) : s.commonReport u rep = s.reportTaken u rep := by
  simp [commonReport, reportTaken, endSilence, restartSilence, inTenths]

theorem unit_foldl_sendOrderStatus (os : List Order) (st : Status) (r : Reason) (v : UnitNo) :
    (os.foldl (fun t o => t.sendOrderStatus o st r) s).unit v = s.unit v := by
  induction os generalizing s with
  | nil => rfl
  | cons o os ih => rw [List.foldl_cons, ih]; simp [sendOrderStatus, sendStatus]

/-- A status for an order of unit u carries u (R61). -/
theorem foldl_sendOrderStatus_for {os : List Order} (h : ∀ o ∈ os, o.target = .unit u) (st : Status) (r : Reason) :
    os.foldl (fun t o => t.sendOrderStatus o st r) s =
      os.foldl (fun t o => t.sendStatus o.tag st r (unitByte u) (modeCode o.mode) o.origin) s := by
  induction os generalizing s with
  | nil => rfl
  | cons o os ih =>
    have ho : s.sendOrderStatus o st r = s.sendStatus o.tag st r (unitByte u) (modeCode o.mode) o.origin := by
      simp [sendOrderStatus, targetUnitByte, h o (by simp)]
    rw [List.foldl_cons, List.foldl_cons, ho, ih fun q hq => h q (by simp [hq])]

/-- The claims that fail with their unit are those that the statements name (R13, R17). -/
theorem failReserve_failQueued (spared : Option CutName) (r : Reason) :
    (s.failQueued u spared r).failReserve u spared r = s.waitingFails u spared r := by
  have hl : (fun o : Order => o.isFor u && !decide (spared = some o.claim.name)) =
      fun o => decide (o.target = .unit u ∧ spared ≠ some { origin := o.origin, tag := o.tag }) := by
    funext o
    by_cases ho : o.target = .unit u <;>
      by_cases hs : spared = some { origin := o.origin, tag := o.tag } <;>
      simp [Order.isFor, Order.claim, Claim.name, ho, hs]
  have hu : ((s.failQueued u spared r).unit u).reserveClaim = (s.unit u).reserveClaim := by
    simp only [failQueued, unit_foldl_sendOrderStatus]
    rfl
  unfold failReserve
  rw [hu]
  unfold waitingFails failQueued
  rw [hl]
  dsimp only
  rw [foldl_sendOrderStatus_for (u := u) fun o ho => (of_decide_eq_true (List.mem_filter.mp ho).2).1]
  cases (s.unit u).reserveClaim with
  | none => rfl
  | some c => rfl

/-- Entry into TRIPPED is the trip that the statements give (R13). -/
theorem enterTripped_eq (detail : Half) :
    (s.updUnit u fun r => { r with tripSeen := true }).enterTripped u detail = s.trippedBy u detail := by
  have hm : (s.updUnit u fun r => { r with tripSeen := true }).changeMode u .tripped =
      s.updUnit u fun r => { r with tripSeen := true, mode := .tripped } := by
    simp [changeMode, entryEvent, updUnit]
  have hc : (s.updUnit u fun r => { r with tripSeen := true }).cutOf u = (s.unit u).transition.bind fun x => x.cut := by
    simp [cutOf]
  unfold enterTripped trippedBy
  dsimp only
  rw [failReserve_failQueued, hm, hc]
  rfl

end Sys2Proof.Machine.State
end

