-- ==== Sys2Proof/Laws/Duty.lean ====
section
/-!
SUPPORT. What the counting operations of the Duty Monitor do to its registers (R172 to R176).
-/

namespace Sys2Proof.Machine.State

variable {s : State} {u : UnitNo}

/-! ## Several updates of one unit's counters -/

theorem updDuty_updDuty (f g : Duty → Duty) : (s.updDuty u f).updDuty u g = s.updDuty u fun d => g (f d) := by
  simp [updDuty]

theorem updDuty_id : (s.updDuty u fun d => d) = s := by
  simp [updDuty]

/-- Counter after counter, one unit's registers are changed: that is one change of them. -/
theorem foldl_updDuty (g : CounterNo → Duty → Duty) (ns : List CounterNo) :
    ns.foldl (fun t n => t.updDuty u (g n)) s = s.updDuty u fun d => ns.foldl (fun d n => g n d) d := by
  induction ns generalizing s with
  | nil => simp [updDuty_id]
  | cons n ns ih => simp [ih, updDuty_updDuty]

/-- Each named place of a vector is changed once, and no other place. -/
theorem foldl_set_get {α : Type} (f : α → α) {ns : List (Fin 4)} (hn : ns.Nodup) (v : Vector α 4) (k : Fin 4) :
    (ns.foldl (fun w n => w.set n.val (f w[n.val])) v)[k.val] = if k ∈ ns then f v[k.val] else v[k.val] := by
  induction ns generalizing v with
  | nil => simp
  | cons n ns ih =>
    obtain ⟨hnn, hns⟩ := List.nodup_cons.mp hn
    rw [List.foldl_cons, ih hns]
    by_cases hk : k = n
    · subst hk
      simp [hnn]
    · simp [hk, Vector.getElem_set_ne _ _ (fun h : n.val = k.val => hk (Fin.ext h.symm))]

/-! ## Counting (R173, R175, R176) -/

theorem foldl_increase (ns : List CounterNo) :
    ns.foldl (increase u) s =
      s.updDuty u fun d => { d with value := ns.foldl (fun v n => v.set n.val (v[n.val] + 1)) d.value } := by
  refine (foldl_updDuty (fun n d => { d with value := d.value.set n.val (d.value[n.val] + 1) }) ns).trans ?_
  congr 1
  funext d
  induction ns generalizing d with
  | nil => rfl
  | cons n ns ih => exact ih _

/-- What counting leaves in each counter before the overflows are acted on: those counted are one higher. -/
theorem foldl_increase_counterValue {ns : List CounterNo} (hn : ns.Nodup) (k : CounterNo) :
    (ns.foldl (increase u) s).counterValue u k =
      if k ∈ ns then s.counterValue u k + 1 else s.counterValue u k := by
  rw [foldl_increase]
  simp only [counterValue, dutyOf_updDuty_self]
  exact foldl_set_get (fun w : Word => w + 1) hn (s.dutyOf u).value k

/-- An overflow leaves every counter of every unit (R176). -/
@[simp] theorem overflow_counterValue (n : CounterNo) (v : UnitNo) (k : CounterNo) :
    (overflow u s n).counterValue v k = s.counterValue v k := by
  by_cases h : v = u
  · subst h
    unfold overflow
    dsimp only
    split <;> split <;> simp [counterValue, sendAlert]
  · unfold overflow
    dsimp only
    split <;> split <;> simp [counterValue, sendAlert, dutyOf_updDuty_of_ne _ h]

theorem foldl_overflow_counterValue (ns : List CounterNo) (v : UnitNo) (k : CounterNo) :
    (ns.foldl (overflow u) s).counterValue v k = s.counterValue v k := by
  induction ns generalizing s with
  | nil => rfl
  | cons n ns ih => rw [List.foldl_cons, ih, overflow_counterValue]

/-- What an event leaves in each counter of its unit: those counted are one higher (R173, R175). -/
theorem countAll_counterValue {ns : List CounterNo} (hn : ns.Nodup) (k : CounterNo) :
    (s.countAll u ns).counterValue u k = if k ∈ ns then s.counterValue u k + 1 else s.counterValue u k := by
  rw [countAll, foldl_overflow_counterValue, foldl_increase_counterValue hn]

/-! ## Seconds (R174) -/

theorem foldl_takeSecond (ns : List CounterNo) :
    ns.foldl (takeSecond u) s =
      s.updDuty u fun d => { d with accumulator := ns.foldl (fun v n => v.set n.val 0) d.accumulator } := by
  refine (foldl_updDuty (fun n d => { d with accumulator := d.accumulator.set n.val 0 }) ns).trans ?_
  congr 1
  funext d
  induction ns generalizing d with
  | nil => rfl
  | cons n ns ih => exact ih _

theorem foldl_takeSecond_accumulator {ns : List CounterNo} (hn : ns.Nodup) (k : CounterNo) :
    ((ns.foldl (takeSecond u) s).dutyOf u).accumulator[k.val] =
      if k ∈ ns then 0 else (s.dutyOf u).accumulator[k.val] := by
  rw [foldl_takeSecond]
  simpa using foldl_set_get (fun _ => 0) hn (s.dutyOf u).accumulator k

/-- The conditions of the second events exclude each other (R174). -/
theorem secondCondition_event {e e' : DutyEvent} (h : s.secondCondition u e = true)
    (h' : s.secondCondition u e' = true) : e = e' := by
  cases e <;> cases e' <;> simp_all [secondCondition]

/-- A counter whose second is complete measures the time. -/
theorem measures_of_secondReady {n : CounterNo} (h : s.secondReady u n = true) : s.measures u n = true := by
  simp only [secondReady, Bool.and_eq_true] at h
  exact h.1

end Sys2Proof.Machine.State
end

