-- ==== Sys2Proof/Laws/Inert.lean ====
section
/-!
SUPPORT. What a start attempt, an offer, a grant or the end of a transition can do: `Inert R` says that a relation R between states is kept by every primitive change these make, and one lemma per shared operation gives R between the state before and after it.
-/

namespace Sys2Proof.Machine

/-- A change of a unit record that the Order Queue, the Transition Engine, the Resource Arbiter and the hold queues make:
only LAST_SETPOINT, TRANSITION, RESERVE_CLAIM and HOLD_QUEUE, which grows to at most 4. -/
structure InnerStep (r r' : UnitRecord) : Prop where
  mode : r'.mode = r.mode
  configuredOut : r'.configuredOut = r.configuredOut
  outInput : r'.outInput = r.outInput
  tripInput : r'.tripInput = r.tripInput
  silent : r'.silent = r.silent
  silenceDeadline : r'.silenceDeadline = r.silenceDeadline
  lastReport : r'.lastReport = r.lastReport
  tripSeen : r'.tripSeen = r.tripSeen
  outDebounce : r'.outDebounce = r.outDebounce
  hold : r'.holdQueue.length ≤ r.holdQueue.length ∨ r'.holdQueue.length ≤ 4

/-- A change of a duty record that counting makes: the control and the accumulators stay. -/
structure CountStep (d d' : Duty) : Prop where
  event : d'.event = d.event
  enable : d'.enable = d.enable
  notify : d'.notify = d.notify
  freezeOnOverflow : d'.freezeOnOverflow = d.freezeOnOverflow
  accumulator : d'.accumulator = d.accumulator

/-- A change of a waterway that grants and releases make: the window and its wait list. -/
structure WindowStep (x x' : Waterway) : Prop where
  alarm : x'.alarm = x.alarm
  alarmSeen : x'.alarmSeen = x.alarmSeen
  silenceDeadline : x'.silenceDeadline = x.silenceDeadline
  lastLevel : x'.lastLevel = x.lastLevel

/-- R holds across every primitive change of a start attempt, an offer, a grant and an end. -/
structure Inert (R : State → State → Prop) : Prop where
  refl : ∀ s, R s s
  trans : ∀ {a b c}, R a b → R b c → R a c
  inner : ∀ s u f, (∀ r, InnerStep r (f r)) → R s (s.updUnit u f)
  count : ∀ s u f, (∀ d, CountStep d (f d)) → R s (s.updDuty u f)
  window : ∀ s w f, (∀ x, WindowStep x (f x)) → R s (s.updWaterway w f)
  converter : ∀ s c x, R s (s.setConverter c x)
  converterWait : ∀ (s : State) l, R s { s with converterWait := l }
  serial : ∀ (s : State) n, R s { s with requestSerial := n }
  orders : ∀ (s : State) l, l.Sublist s.orders → R s { s with orders := l }
  append : ∀ (s : State) a, s.orders.length < 16 → R s (s.appendOrder a)
  originate : ∀ (s : State) p t, R s (s.originate p t)
  forwardTo : ∀ (s : State) p t, R s (s.forwardTo p t)
  dropped : ∀ (s : State) p n, R s (s.countDroppedGuard p n)

namespace Inert

variable {R : State → State → Prop} (h : Inert R)
include h

/-! Every lemma below extends R from `a` to the state `s` by one operation on `s`. -/

set_option linter.unusedSectionVars false in
/-- A fold of steps that extend R. -/
theorem foldl {α : Type} {g : State → α → State} (hg : ∀ {a s : State} (x : α), R a s → R a (g s x)) (l : List α)
    {a s : State} (ha : R a s) : R a (l.foldl g s) := by
  induction l generalizing s with
  | nil => exact ha
  | cons x l ih => exact ih (hg x ha)

/-- A change of a unit record that leaves HOLD_QUEUE. -/
theorem record {u : UnitNo} {f : UnitRecord → UnitRecord} (hf : ∀ r, InnerStep r (f r)) {a s : State} (ha : R a s) :
    R a (s.updUnit u f) := h.trans ha (h.inner s u f hf)

theorem countStep {u : UnitNo} {f : Duty → Duty} (hf : ∀ d, CountStep d (f d)) {a s : State} (ha : R a s) :
    R a (s.updDuty u f) := h.trans ha (h.count s u f hf)

theorem windowStep {w : WaterwayNo} {f : Waterway → Waterway} (hf : ∀ x, WindowStep x (f x)) {a s : State}
    (ha : R a s) : R a (s.updWaterway w f) := h.trans ha (h.window s w f hf)

theorem updTransition {u : UnitNo} {f : Transition → Transition} {a s : State} (ha : R a s) :
    R a (s.updTransition u f) :=
  h.record (by exact fun _ => ⟨rfl, rfl, rfl, rfl, rfl, rfl, rfl, rfl, rfl, Or.inl le_rfl⟩) ha

theorem setConverter {c x} {a s : State} (ha : R a s) : R a (s.setConverter c x) := h.trans ha (h.converter s c x)

theorem withConverterWait {l} {a s : State} (ha : R a s) : R a { s with converterWait := l } :=
  h.trans ha (h.converterWait s l)

theorem withSerial {n} {a s : State} (ha : R a s) : R a { s with requestSerial := n } := h.trans ha (h.serial s n)

theorem withOrders {l} {a s : State} (hl : l.Sublist s.orders) (ha : R a s) : R a { s with orders := l } :=
  h.trans ha (h.orders s l hl)

/-! ## Telegrams -/

theorem sent {p t} {a s : State} (ha : R a s) : R a (s.originate p t) := h.trans ha (h.originate s p t)

theorem forwarded {p t} {a s : State} (ha : R a s) : R a (s.forwardTo p t) := h.trans ha (h.forwardTo s p t)

theorem countDroppedGuard {p n} {a s : State} (ha : R a s) : R a (s.countDroppedGuard p n) := h.trans ha (h.dropped s p n)

theorem sendStatus {tag st r unit mode o} {a s : State} (ha : R a s) : R a (s.sendStatus tag st r unit mode o) := h.sent ha

theorem sendAlert {k sub d} {a s : State} (ha : R a s) : R a (s.sendAlert k sub d) := h.sent ha

theorem sendUnitCommand {u c sp cv r p} {a s : State} (ha : R a s) : R a (s.sendUnitCommand u c sp cv r p) := h.sent ha

theorem sendConverterAssign {c u x} {a s : State} (ha : R a s) : R a (s.sendConverterAssign c u x) := h.sent ha

theorem sendSetpointCommand {u sp} {a s : State} (ha : R a s) : R a (s.sendSetpointCommand u sp) := by
  unfold State.sendSetpointCommand
  exact h.record (by exact fun _ => ⟨rfl, rfl, rfl, rfl, rfl, rfl, rfl, rfl, rfl, Or.inl le_rfl⟩) (h.sendUnitCommand ha)

theorem sendTransitionStatus {u t st r} {a s : State} (ha : R a s) : R a (s.sendTransitionStatus u t st r) :=
  h.sendStatus ha

theorem sendClaimStatus {u c st r} {a s : State} (ha : R a s) : R a (s.sendClaimStatus u c st r) := h.sendStatus ha

theorem sendOrderStatus {o st r} {a s : State} (ha : R a s) : R a (s.sendOrderStatus o st r) := h.sendStatus ha

/-! ## Counting (R173, R175, R176) -/

theorem increase {u : UnitNo} (n : CounterNo) {a s : State} (ha : R a s) : R a (State.increase u s n) :=
  h.countStep (by exact fun _ => ⟨rfl, rfl, rfl, rfl, rfl⟩) ha

theorem overflow {u : UnitNo} (n : CounterNo) {a s : State} (ha : R a s) : R a (State.overflow u s n) := by
  unfold State.overflow
  extract_lets s1 s2
  have h1 : R a s1 := h.countStep (by exact fun _ => ⟨rfl, rfl, rfl, rfl, rfl⟩) ha
  have h2 : R a s2 := by
    unfold s2
    split
    · exact h.sendAlert h1
    · exact h1
  split
  · exact h.countStep (by exact fun _ => ⟨rfl, rfl, rfl, rfl, rfl⟩) h2
  · exact h2

theorem countAll {u : UnitNo} {ns : List CounterNo} {a s : State} (ha : R a s) : R a (s.countAll u ns) := by
  unfold State.countAll
  extract_lets wrapped
  exact h.foldl (fun n hn => h.overflow n hn) _ (h.foldl (fun n hn => h.increase n hn) _ ha)

theorem dutyEvent {e : DutyEvent} {u : UnitNo} {a s : State} (ha : R a s) : R a (s.dutyEvent e u) := h.countAll ha

/-! ## Phases and resources (R67 to R69, chapter 5) -/

theorem sendPhaseCommand {u : UnitNo} {a s : State} (ha : R a s) : R a (s.sendPhaseCommand u) := by
  unfold State.sendPhaseCommand
  split
  · exact ha
  · extract_lets p sp s1
    have h1 : R a s1 := h.sendUnitCommand ha
    split
    · exact h.record (by exact fun _ => ⟨rfl, rfl, rfl, rfl, rfl, rfl, rfl, rfl, rfl, Or.inl le_rfl⟩) h1
    · exact h1

theorem becomeRunning {u : UnitNo} {a s : State} (ha : R a s) : R a (s.becomeRunning u) := by
  unfold State.becomeRunning
  split
  · exact ha
  · exact h.updTransition (h.sendPhaseCommand (h.updTransition ha))

theorem waitForConverter {u : UnitNo} {a s : State} (ha : R a s) : R a (s.waitForConverter u) :=
  h.withSerial (n := s.requestSerial + 1) (h.withConverterWait (l := placeEntry (s.newEntry u) s.converterWait) ha)

theorem waitForWindow {w : WaterwayNo} {u : UnitNo} {a s : State} (ha : R a s) : R a (s.waitForWindow w u) := by
  unfold State.waitForWindow
  exact h.withSerial (h.windowStep (by exact fun _ => ⟨rfl, rfl, rfl, rfl⟩) ha)

theorem grantWindow {w : WaterwayNo} {u : UnitNo} {a s : State} (ha : R a s) : R a (s.grantWindow w u) := by
  unfold State.grantWindow
  extract_lets s1 s2 s3
  exact h.becomeRunning (h.updTransition (h.dutyEvent (h.windowStep (by exact fun _ => ⟨rfl, rfl, rfl, rfl⟩) ha)))

theorem requestWindow {u : UnitNo} {a s : State} (ha : R a s) : R a (s.requestWindow u) := by
  unfold State.requestWindow
  extract_lets w
  split
  · exact h.grantWindow ha
  · exact h.waitForWindow ha

theorem grantConverter {c : ConverterNo} {u : UnitNo} {a s : State} (ha : R a s) : R a (s.grantConverter c u) := by
  unfold State.grantConverter
  extract_lets s1 s2 s3 s4 s5
  have h5 : R a s5 :=
    h.updTransition (h.dutyEvent (h.sendConverterAssign (h.setConverter (h.withConverterWait ha))))
  split
  · exact h.requestWindow h5
  · exact h.becomeRunning h5

theorem requestConverter {u : UnitNo} {a s : State} (ha : R a s) : R a (s.requestConverter u) := by
  unfold State.requestConverter
  split
  · exact h.grantConverter ha
  · exact h.waitForConverter ha

theorem releaseConverter {u : UnitNo} {a s : State} (ha : R a s) : R a (s.releaseConverter u) := by
  unfold State.releaseConverter
  split
  · exact ha
  · split
    · exact ha
    · extract_lets s1 s2 s3
      have h3 : R a s3 := h.sendConverterAssign (h.setConverter (h.updTransition ha))
      split
      · exact h3
      · exact h.grantConverter h3

theorem serveWindow {w : WaterwayNo} {a s : State} (ha : R a s) : R a (s.serveWindow w) := by
  unfold State.serveWindow
  split
  · exact ha
  · split
    · exact h.grantWindow ha
    · exact ha

theorem releaseWindow {u : UnitNo} {a s : State} (ha : R a s) : R a (s.releaseWindow u) := by
  unfold State.releaseWindow
  split
  · exact ha
  · split
    · exact ha
    · extract_lets s1
      have h1 : R a s1 := h.updTransition ha
      split
      · exact h.serveWindow (h.windowStep (by exact fun _ => ⟨rfl, rfl, rfl, rfl⟩) h1)
      · exact h.windowStep (by exact fun _ => ⟨rfl, rfl, rfl, rfl⟩) h1

theorem withdrawEntry {u : UnitNo} {a s : State} (ha : R a s) : R a (s.withdrawEntry u) := by
  unfold State.withdrawEntry
  extract_lets s1
  exact h.foldl (fun _ hw => h.windowStep (by exact fun _ => ⟨rfl, rfl, rfl, rfl⟩) hw) _ (h.withConverterWait ha)

theorem rerankEntry {u : UnitNo} {r : Nat} {a s : State} (ha : R a s) : R a (s.rerankEntry u r) := by
  unfold State.rerankEntry
  extract_lets s1
  exact h.foldl (fun _ hw => h.windowStep (by exact fun _ => ⟨rfl, rfl, rfl, rfl⟩) hw) _ (h.withConverterWait ha)

theorem phaseStart {u : UnitNo} {k : Nat} {a s : State} (ha : R a s) : R a (s.phaseStart u k) := by
  unfold State.phaseStart
  split
  · exact ha
  · extract_lets claim ac aw s1 s2
    have h1 : R a s1 := h.updTransition ha
    split
    · exact h.becomeRunning h1
    · have h2 : R a s2 := h.updTransition h1
      split
      · exact h.requestConverter h2
      · exact h.requestWindow h2

/-! ## Hold queues (R143 to R146) -/

theorem judgeHeld {u : UnitNo} (x : Held) {a s : State} (ha : R a s) : R a (State.judgeHeld u s x) := by
  unfold State.judgeHeld
  split
  · exact h.forwarded ha
  · exact h.forwarded ha
  · exact h.countDroppedGuard ha

theorem rejudge {u : UnitNo} {a s : State} (ha : R a s) : R a (s.rejudge u) := by
  unfold State.rejudge
  extract_lets held
  exact h.foldl (fun x hx => h.judgeHeld x hx) _
    (h.record (by exact fun _ => ⟨rfl, rfl, rfl, rfl, rfl, rfl, rfl, rfl, rfl, Or.inr (Nat.zero_le _)⟩) ha)

theorem discardHeld {u : UnitNo} {a s : State} (ha : R a s) : R a (s.discardHeld u) := by
  unfold State.discardHeld
  extract_lets n
  exact h.countDroppedGuard
    (h.record (by exact fun _ => ⟨rfl, rfl, rfl, rfl, rfl, rfl, rfl, rfl, rfl, Or.inr (Nat.zero_le _)⟩) ha)

theorem hold {u : UnitNo} {p : PortName} {k : Fin 16} {t : Telegram} {a s : State} (ha : R a s) :
    R a (s.hold u p k t) := by
  unfold State.hold
  split
  · rename_i hlt
    -- the record's queue holds at most 3 telegrams, so it grows to at most 4
    have e : s.updUnit u (fun r => { r with holdQueue := r.holdQueue ++ [{ telegram := t, cls := k, port := p }] }) =
        s.updUnit u (fun r => { r with
          holdQueue :=
            if r.holdQueue.length < 4 then r.holdQueue ++ [{ telegram := t, cls := k, port := p }] else r.holdQueue }) := by
      have hlt' : s.units[u.val].holdQueue.length < 4 := hlt
      simp only [State.updUnit, hlt', if_true]
    rw [e]
    refine h.record ?_ ha
    intro r
    refine ⟨rfl, rfl, rfl, rfl, rfl, rfl, rfl, rfl, rfl, ?_⟩
    by_cases hr : r.holdQueue.length < 4
    · right
      simp only [hr, if_true, List.length_append, List.length_cons, List.length_nil]
      omega
    · left
      simp only [hr, if_false]
      exact le_rfl
  · extract_lets s1 s2
    exact h.sendAlert (h.dutyEvent (h.countDroppedGuard ha))

theorem judge {p : PortName} {t : Telegram} {a s : State} (ha : R a s) : R a (s.judge p t) := by
  unfold State.judge
  extract_lets k
  split
  · split
    · exact h.countDroppedGuard ha
    · exact h.forwarded ha
    · exact h.forwarded ha
  · extract_lets c
    split
    · exact h.forwarded ha
    · exact h.countDroppedGuard ha
    · split
      · exact h.hold ha
      · exact h.forwarded ha

/-! ## The end of a transition (R86) -/

theorem endTransition {u : UnitNo} {st : Status} {r : Reason} {byTrip : Bool} {a s : State} (ha : R a s) :
    R a (s.endTransition u st r byTrip) := by
  unfold State.endTransition
  split
  · exact ha
  · extract_lets s1 s2 s3 s4 s5 s6
    have h4 : R a s4 := h.sendTransitionStatus (h.releaseWindow (h.releaseConverter (h.withdrawEntry ha)))
    have h5 : R a s5 := by
      unfold s5
      split
      · exact h.dutyEvent h4
      · exact h4
    have h6 : R a s6 := h.record (by exact fun _ => ⟨rfl, rfl, rfl, rfl, rfl, rfl, rfl, rfl, rfl, Or.inl le_rfl⟩) h5
    split
    · exact h.discardHeld h6
    · exact h.rejudge h6

theorem settleSetpoint {u m sp} {a s : State} (ha : R a s) : R a (s.settleSetpoint u m sp) := by
  unfold State.settleSetpoint
  split
  · exact h.sendSetpointCommand ha
  · exact ha

theorem retryPhase {u : UnitNo} {t : Transition} {a s : State} (ha : R a s) : R a (s.retryPhase u t) := by
  unfold State.retryPhase
  extract_lets s1 s2 s3 s4
  exact h.dutyEvent (h.sendAlert (h.updTransition (h.sendPhaseCommand (h.updTransition ha))))

theorem clearCut {u o tag} {a s : State} (ha : R a s) : R a (s.clearCut u o tag) := h.updTransition ha

/-! ## Start attempts and pool passes (R53 to R57) -/

theorem removeClaim {u : UnitNo} {slot : Slot} {a s : State} (ha : R a s) : R a (s.removeClaim u slot) := by
  unfold State.removeClaim
  split
  · exact h.record (by exact fun _ => ⟨rfl, rfl, rfl, rfl, rfl, rfl, rfl, rfl, rfl, Or.inl le_rfl⟩) ha
  · exact h.withOrders (List.eraseIdx_sublist _ _) ha

theorem completeAtOnce {u slot c} {a s : State} (ha : R a s) : R a (s.completeAtOnce u slot c) := by
  unfold State.completeAtOnce
  exact h.sendClaimStatus (h.removeClaim (h.settleSetpoint ha))

theorem failNoRoute {u slot c} {a s : State} (ha : R a s) : R a (s.failNoRoute u slot c) := by
  unfold State.failNoRoute
  exact h.sendClaimStatus (h.removeClaim ha)

theorem startClaim {u m r slot c} {a s : State} (ha : R a s) : R a (s.startClaim u m r slot c) := by
  unfold State.startClaim
  extract_lets s1 s2 s3
  have h2 : R a s2 :=
    h.record (by exact fun _ => ⟨rfl, rfl, rfl, rfl, rfl, rfl, rfl, rfl, rfl, Or.inl le_rfl⟩) (h.removeClaim ha)
  exact h.phaseStart (h.sendClaimStatus h2)

theorem attemptLoop {fuel : Nat} {u : UnitNo} {a s : State} (ha : R a s) : R a (State.attemptLoop fuel u s).1 := by
  induction fuel generalizing s with
  | zero => exact ha
  | succ fuel ih =>
    unfold State.attemptLoop
    extract_lets r
    split
    · split
      · exact ha
      · split
        · exact ha
        · split
          · exact ih (h.completeAtOnce ha)
          · split
            · exact ih (h.failNoRoute ha)
            · exact h.startClaim ha
    all_goals exact ha

theorem attemptUnit {u : UnitNo} {a s : State} (ha : R a s) : R a (s.attemptUnit u).1 := h.attemptLoop ha

theorem poolWalk {fuel k : Nat} {b : Bool} {a s : State} (ha : R a s) : R a (State.poolWalk fuel k b s).1 := by
  induction fuel generalizing k b s with
  | zero => exact ha
  | succ fuel ih =>
    unfold State.poolWalk
    split
    · exact ha
    · split
      · exact ih ha
      · rename_i u _
        have hu := h.attemptUnit (u := u) ha
        split <;> rename_i e <;> rw [e] at hu <;> exact ih hu

theorem poolLoop {fuel : Nat} {a s : State} (ha : R a s) : R a (State.poolLoop fuel s) := by
  induction fuel generalizing s with
  | zero => exact ha
  | succ fuel ih =>
    unfold State.poolLoop
    have hw := h.poolWalk (fuel := s.orders.length) (k := 0) (b := false) ha
    split
    · rename_i e
      rw [e] at hw
      exact ih hw
    · rename_i e
      rw [e] at hw
      exact hw

theorem poolPass {a s : State} (ha : R a s) : R a s.poolPass := h.poolLoop ha

/-- A start attempt (R53, R57). -/
theorem startAttempt {u : UnitNo} {a s : State} (ha : R a s) : R a (s.startAttempt u) := h.poolPass (h.attemptUnit ha)

/-! ## Offers and arrivals (R45 to R50, R77 to R80) -/

theorem removeOffered {u : UnitNo} {c : Claim} {a s : State} (ha : R a s) : R a (s.removeOffered u c) := by
  unfold State.removeOffered
  split
  · exact h.record (by exact fun _ => ⟨rfl, rfl, rfl, rfl, rfl, rfl, rfl, rfl, rfl, Or.inl le_rfl⟩) ha
  · exact h.withOrders List.filter_sublist ha

theorem merge {u : UnitNo} {t : Transition} {c : Claim} {a s : State} (ha : R a s) : R a (s.merge u t c) := by
  unfold State.merge
  extract_lets s1 s2 s3 s4
  have h4 : R a s4 := h.sendClaimStatus (h.updTransition (h.removeOffered (h.sendTransitionStatus ha)))
  split
  · exact h.rerankEntry h4
  · exact h4

theorem offer {u : UnitNo} {t : Transition} {c : Claim} {a s : State} (ha : R a s) : R a (s.offer u t c) := by
  unfold State.offer
  split
  · exact ha
  · split
    · exact h.merge ha
    · split
      · exact h.updTransition ha
      · exact h.startAttempt (h.endTransition ha)

theorem actOn {u : UnitNo} {c : Claim} {a s : State} (ha : R a s) : R a (s.actOn u c) := by
  unfold State.actOn
  split
  · exact h.offer ha
  · exact h.startAttempt ha

theorem supersedeQueued {u : UnitNo} {a s : State} (ha : R a s) : R a (s.supersedeQueued u) := by
  unfold State.supersedeQueued
  extract_lets gone
  exact h.foldl (fun _ ho => h.sendOrderStatus (h.clearCut ho)) _ (h.withOrders List.filter_sublist ha)

theorem supersedeFor {t : Target} {a s : State} (ha : R a s) : R a (s.supersedeFor t) := by
  cases t
  · exact h.supersedeQueued ha
  · exact ha

theorem acceptArrival {x : State.Arrival} {a s : State} (hs : s.orders.length < 16) (ha : R a s) :
    R a (s.acceptArrival x) := by
  unfold State.acceptArrival
  extract_lets s1 s2
  have h2 : R a s2 := h.sendStatus (h.trans ha (h.append s x hs))
  split
  · exact h.actOn h2
  · exact h.poolPass h2

theorem queueOrder {x : State.Arrival} {a s : State} (ha : R a s) : R a (s.queueOrder x) := by
  unfold State.queueOrder
  split
  · exact h.sendStatus ha
  · split
    · exact h.sendStatus ha
    · extract_lets s1
      have h1 : R a s1 := h.supersedeFor ha
      split
      · exact h.sendStatus h1
      · exact h.acceptArrival (by omega) h1

/-! ## Orders that end in the queue (R58 to R60) -/

theorem clearCutOf {o : Order} {a s : State} (ha : R a s) : R a (s.clearCutOf o) := by
  unfold State.clearCutOf
  split
  · exact h.clearCut ha
  · exact ha

theorem attemptFor {o : Order} {a s : State} (ha : R a s) : R a (s.attemptFor o) := by
  unfold State.attemptFor
  split
  · exact h.startAttempt ha
  · exact ha

theorem expireOrder {k : Nat} {a s : State} (ha : R a s) : R a (s.expireOrder k) := by
  unfold State.expireOrder
  split
  · exact ha
  · split
    · exact h.attemptFor (h.sendOrderStatus (h.clearCutOf (h.withOrders (List.eraseIdx_sublist _ _) ha)))
    · exact ha

theorem withdrawOrders {leaves : Order → Bool} {r : Reason} {a s : State} (ha : R a s) :
    R a (s.withdrawOrders leaves r) := by
  unfold State.withdrawOrders
  extract_lets gone
  exact h.foldl (fun _ ho => h.sendOrderStatus (h.clearCutOf ho)) _ (h.withOrders List.filter_sublist ha)

theorem withdrawAndAttempt {leaves : Order → Bool} {r : Reason} {a s : State} (ha : R a s) :
    R a (s.withdrawAndAttempt leaves r) := by
  unfold State.withdrawAndAttempt State.attemptsAfterWithdrawal
  extract_lets gone
  exact h.foldl (fun _ hu => h.startAttempt hu) _ (h.withdrawOrders ha)

/-! ## Schedule claims and reserve claims (R48, R112, R113) -/

theorem scheduleClaim {r : Byte} {row : Row} (u : UnitNo) {a s : State} (ha : R a s) :
    R a (State.scheduleClaim r row s u) := by
  unfold State.scheduleClaim
  split
  · split
    · exact h.queueOrder ha
    · exact ha
  · exact ha

theorem scheduleClaims {r : Byte} {row : Row} {a s : State} (ha : R a s) : R a (s.scheduleClaims r row) :=
  h.foldl (fun u hu => h.scheduleClaim u hu) _ ha

theorem supersedeReserve {u : UnitNo} {a s : State} (ha : R a s) : R a (s.supersedeReserve u) := by
  unfold State.supersedeReserve
  split
  · exact ha
  · exact h.sendClaimStatus
      (h.clearCut (h.record (by exact fun _ => ⟨rfl, rfl, rfl, rfl, rfl, rfl, rfl, rfl, rfl, Or.inl le_rfl⟩) ha))

theorem formClaim {u : UnitNo} {c : ReserveClaim} {a s : State} (ha : R a s) : R a (s.formClaim u c) := by
  unfold State.formClaim
  exact h.record (by exact fun _ => ⟨rfl, rfl, rfl, rfl, rfl, rfl, rfl, rfl, rfl, Or.inl le_rfl⟩)
    (h.supersedeQueued (h.supersedeReserve ha))

theorem formClaims {cs : List (UnitNo × ReserveClaim)} {a s : State} (ha : R a s) : R a (s.formClaims cs) :=
  h.foldl (fun _ hu => h.formClaim hu) _ ha

theorem actOnClaims {cs : List (UnitNo × ReserveClaim)} {a s : State} (ha : R a s) : R a (s.actOnClaims cs) :=
  h.foldl (fun _ hu => h.actOn hu) _ ha

/-! ## Claims that fail with their unit (R13, R17) -/

theorem failQueued {u : UnitNo} {keep : Option CutName} {r : Reason} {a s : State} (ha : R a s) :
    R a (s.failQueued u keep r) := by
  unfold State.failQueued
  extract_lets leaves
  exact h.foldl (fun _ ho => h.sendOrderStatus ho) _ (h.withOrders List.filter_sublist ha)

theorem failReserve {u : UnitNo} {keep : Option CutName} {r : Reason} {a s : State} (ha : R a s) :
    R a (s.failReserve u keep r) := by
  unfold State.failReserve
  split
  · exact ha
  · split
    · exact ha
    · exact h.sendClaimStatus
        (h.record (by exact fun _ => ⟨rfl, rfl, rfl, rfl, rfl, rfl, rfl, rfl, rfl, Or.inl le_rfl⟩) ha)

theorem reportTrip {u : UnitNo} {d : Half} {a s : State} (ha : R a s) : R a (s.reportTrip u d) := by
  unfold State.reportTrip
  exact h.dutyEvent (h.sendAlert ha)

end Inert
end Sys2Proof.Machine
end

