-- ==== Sys2Proof/Laws/Telegrams.lean ====
section
/-!
SUPPORT. What a telegram that arrives on a receiving port leads to: one lemma per kind, down to the block that takes it, and the fields put together and taken apart again.
-/

namespace Sys2Proof

/-! ## Fields of several bytes -/

@[simp] theorem half_hiByte_loByte (h : Half) : half (hiByte h) (loByte h) = h := by
  apply BitVec.eq_of_getLsbD_eq
  intro i hi
  unfold half hiByte loByte
  rw [BitVec.getLsbD_append]
  simp only [BitVec.getLsbD_extractLsb']
  by_cases hl : i < 8
  · simp [hl]
  · have : i - 8 < 8 := by omega
    have e : 8 + (i - 8) = i := by omega
    simp [hl, this, e]

@[simp] theorem word_bytes (w : Word) :
    word (BitVec.extractLsb' 24 8 w) (BitVec.extractLsb' 16 8 w) (BitVec.extractLsb' 8 8 w)
      (BitVec.extractLsb' 0 8 w) = w := by
  apply BitVec.eq_of_getLsbD_eq
  intro i hi
  unfold word
  simp only [BitVec.getLsbD_append, BitVec.getLsbD_extractLsb']
  by_cases h0 : i < 8
  · simp [h0]
  · by_cases h1 : i - 8 < 8
    · have e : 8 + (i - 8) = i := by omega
      simp [h0, h1, e]
    · by_cases h2 : i - 8 - 8 < 8
      · have e : 16 + (i - 8 - 8) = i := by omega
        simp [h0, h1, h2, e]
      · have h3 : i - 8 - 8 - 8 < 8 := by omega
        have e : 24 + (i - 8 - 8 - 8) = i := by omega
        simp [h0, h1, h2, h3, e]

theorem halfBytes_length (h : Half) : (halfBytes h).length = 2 := rfl
theorem wordBytes_length (w : Word) : (wordBytes w).length = 4 := rfl

namespace Machine

/-! ## Arrival (R150, R151, R135) -/

/-- What the model tests is what the statements say: UP, and not under the part's own driver (R149, R150). -/
theorem receives_iff (s : State) (p : PortName) : s.receives p = true ↔ s.Receives p := by
  cases p <;> simp [State.receives, State.drivesLine, State.Receives]

/-- The plant port receives whenever it is UP (R149). -/
theorem receives_plant {s : State} (hl : s.plantPort.link = true) : s.Receives .plant :=
  ⟨hl, fun h => nomatch h⟩

/-- A good telegram on a receiving port is counted, reported to Dispatcher Control, and routed. -/
theorem takeTelegram_up {p : PortName} {t : Telegram} {s : State} (hl : s.Receives p)
    (ht : t.payload.length ≤ 64) : s.takeTelegram p t = (s.heard p t.src).routeTelegram p t := by
  unfold State.takeTelegram
  rw [if_neg (by simp [(receives_iff s p).2 hl]), if_neg (by omega)]
  congr 1
  unfold State.reportMaster State.heard State.masterHeard State.countReceivedGood
  by_cases h1 : p = .plant
  · by_cases h2 : t.src = 0x02#8
    · by_cases h3 : s.dispatcher = .directed
      · simp [h1, h2, h3, State.startMasterSilence, State.updCounters, State.inTenths]
      · simp [h1, h2, h3, State.updCounters]
    · simp [h2]
  · simp [h1]

/-- A telegram on a port that does not receive has no effect. -/
theorem takeTelegram_unreceived {p : PortName} {t : Telegram} {s : State} (hl : ¬ s.Receives p) :
    s.takeTelegram p t = s := by
  unfold State.takeTelegram
  rw [if_pos (by simpa using fun h => hl ((receives_iff s p).1 h))]

/-- A telegram too long for a frame is counted as malformed (log 15). -/
theorem takeTelegram_long {p : PortName} {t : Telegram} {s : State} (hl : s.Receives p)
    (ht : 64 < t.payload.length) : s.takeTelegram p t = s.countMalformed p := by
  unfold State.takeTelegram
  rw [if_neg (by simp [(receives_iff s p).2 hl]), if_pos ht]

/-! ## Requests (R159, R160) -/

theorem routeOf_requestTelegram (h : RequestHead) (code : Byte) (data : List Byte) :
    routeOf .plant (requestTelegram h code data) = .request := rfl

theorem requestTelegram_payload (h : RequestHead) (code : Byte) (data : List Byte) :
    (requestTelegram h code data).payload = code :: h.table :: hiByte h.index :: loByte h.index :: data := rfl

/-- A request with a whole header on an UP plant port, with RESET_PENDING clear, is taken by its code. -/
theorem takeRequest_taken {h : RequestHead} {code : Byte} {data : List Byte} {s : State} (hs : s.TakesRequests)
    (hd : data.length ≤ 60) :
    s.takeRequest h code data =
      (s.heard .plant h.src).respondTo h.tag code { table := h.table, index := h.index, data := data } := by
  unfold State.takeRequest
  rw [takeTelegram_up (p := .plant) (s := s) (receives_plant hs.1) (by rw [requestTelegram_payload]; simp; omega)]
  unfold State.routeTelegram
  rw [routeOf_requestTelegram]
  have hp : (s.heard .plant h.src).resetPending = false := by
    simp only [State.heard]
    split <;> simp [State.updCounters, hs.2]
  show (s.heard .plant h.src).respond h.tag (requestTelegram h code data).payload = _
  rw [requestTelegram_payload]
  unfold State.respond
  rw [if_neg (by simp [hp])]
  simp

/-- A request other than RESET acts and is answered. -/
theorem respondTo_handle {tag : Half} {code : Byte} {r : Request} {s : State} (hc : code ≠ 16) :
    s.respondTo tag code r = State.answer tag code r.index (s.handle code r) := by
  unfold State.respondTo
  rw [if_neg hc]

/-- The answer as the statements write it. -/
theorem answer_eq_replied (h : RequestHead) (code : Byte) (t : State) (r : Reply) :
    State.answer h.tag code h.index (t, r) = t.replied h code r.result r.data := rfl

/-! ## Dispatch orders (R42, R43) -/

/-- A DISPATCH ORDER on an UP plant port goes through the arrival checks. -/
theorem exec_dispatchOrder {src : Byte} {ident tag : Half} {payload : List Byte} {s : State}
    (hl : s.plantPort.link = true) (hp : payload.length ≤ 64) :
    exec (.dispatchOrder src ident tag payload) s = .next ((s.heard .plant src).takeOrder tag payload) := by
  show Host.Outcome.next (s.takeTelegram .plant (orderTelegram src ident tag payload)) = _
  rw [takeTelegram_up (p := .plant) (s := s) (receives_plant hl) hp]
  rfl

/-- The fields of a payload that passes check 1. -/
theorem parseOrder_orderPayload {tt target mode : Byte} {setpoint validity : Half} (ht : tt.toNat ≤ 1)
    (hs : setpoint.toNat ≤ 4000) :
    parseOrder (orderPayload tt target mode setpoint validity) =
      some { targetType := tt, target := target, mode := mode, setpoint := setpoint, validity := validity } := by
  have h01 : tt = 0 ∨ tt = 1 := by
    rcases Nat.le_one_iff_eq_zero_or_eq_one.mp ht with h | h
    · exact Or.inl (BitVec.eq_of_toNat_eq (by simpa using h))
    · exact Or.inr (BitVec.eq_of_toNat_eq (by simpa using h))
  unfold orderPayload halfBytes parseOrder
  rcases h01 with h | h <;> simp [h, within, setpointOk, hs]

/-! ## Reports (R136) -/

/-- A UNIT REPORT on the receiving unit port is taken by the Unit Monitor and forwarded to the plant port. -/
theorem exec_unitReport {dst src : Byte} {ident tag : Half} {payload : List Byte} {s : State}
    (hl : s.Receives .unit) (hp : payload.length ≤ 64) :
    exec (.unitReport dst src ident tag payload) s =
      .next (((s.heard .unit src).takeUnitReport (unitReportTelegram dst src ident tag payload)).forwardTo .plant
        (unitReportTelegram dst src ident tag payload)) := by
  show Host.Outcome.next (s.takeTelegram .unit (unitReportTelegram dst src ident tag payload)) = _
  rw [takeTelegram_up (p := .unit) (s := s) hl hp]
  rfl

/-- A WATERWAY REPORT on the receiving unit port is taken by the Resource Arbiter and forwarded to the plant port. -/
theorem exec_waterwayReport {dst src : Byte} {ident tag : Half} {payload : List Byte} {s : State}
    (hl : s.Receives .unit) (hp : payload.length ≤ 64) :
    exec (.waterwayReport dst src ident tag payload) s =
      .next (((s.heard .unit src).takeWaterwayReport (waterwayReportTelegram dst src ident tag payload)).forwardTo .plant
        (waterwayReportTelegram dst src ident tag payload)) := by
  show Host.Outcome.next (s.takeTelegram .unit (waterwayReportTelegram dst src ident tag payload)) = _
  rw [takeTelegram_up (p := .unit) (s := s) hl hp]
  rfl

/-- The report that a status word, power and speed spell. -/
theorem parseReport_bytes (w : Word) (power speed : Half) :
    State.parseReport (wordBytes w ++ halfBytes power ++ halfBytes speed) =
      some { statusWord := w, power := power, speed := speed } := by
  unfold wordBytes halfBytes State.parseReport
  simp

/-- On the unit port only the port's own counters see a good telegram. -/
theorem heard_unit (src : Byte) (s : State) :
    s.heard .unit src = s.updCounters .unit fun c => { c with receivedGood := saturate c.receivedGood 1 } := by
  unfold State.heard
  simp

end Machine
end Sys2Proof
end

