-- ==== Sys2Proof/Tests/Slice0.lean ====
section
/-!
SUPPORT. Tests: ill-formed commands that `wf` refuses, one or two steps of each command on small states, and for each statement a state and operands that meet its hypotheses.
-/

namespace Sys2Proof.Tests

open Sys2Proof Sys2Proof.Machine

set_option Elab.async false

/-! ## Small states -/

/-- The next state of a command, if it answers one. -/
def ran (i : Instr) (s : State) : Option State :=
  match exec i s with
  | .next t => some t
  | .fault _ => none
  | .refused _ => none

/-- A telegram of a kind no block reads. -/
def note : Telegram := { dst := 0x10, src := 0x02, kind := 0x33, ident := 0, tag := 0, payload := [1] }

/-- A foreign telegram. -/
def stray : Telegram := { dst := 0x02, src := 0x30, kind := 0x02, ident := 0, tag := 0, payload := [] }

/-- A port that is UP, with its queues. -/
def upPort (originated forwarded : List Telegram) : PortState :=
  { PortState.powerOn 0 false with link := true, originated := originated, forwarded := forwarded }

/-- After power-on reset, with both links UP. -/
def linked : State := { State.reset with plantPort := upPort [] [], unitPort := upPort [] [] }

/-- A station of six units with one converter: ST to GEN in two phases on route 0, GEN to ST on route 1. -/
def plan : PlanTables :=
  { PlanTables.powerOn with
    station := { Station.powerOn with unitCount := 6, converterCount := 1, masterSilence := 30 }
    routes := ((PlanTables.powerOn.routes.set 0
      { enabled := true, fromMode := .st, toMode := .gen, units := 0x3F, firstPhase := 0, phaseCount := 2 }).set 1
      { enabled := true, fromMode := .gen, toMode := .st, units := 0x3F, firstPhase := 2, phaseCount := 1 })
    phases := (((PlanTables.powerOn.phases.set 0
      { command := 0x20, landing := .st, statusValue := 1, statusMask := 0xFF, timeLimit := 90, retries := 1,
        claim := .none, keep := .none, sendSetpoint := false }).set 1
      { command := 0x21, landing := .gen, statusValue := 2, statusMask := 0xFF, timeLimit := 60, retries := 0,
        claim := .none, keep := .none, sendSetpoint := true }).set 2
      { command := 0x22, landing := .st, statusValue := 3, statusMask := 0xFF, timeLimit := 60, retries := 0,
        claim := .both, keep := .none, sendSetpoint := false })
    recognition := (((PlanTables.powerOn.recognition.set 0
      { enabled := true, mode := 0, units := 0x3F, value := 0x10, mask := 0xFF }).set 1
      { enabled := true, mode := 1, units := 0x3F, value := 0x11, mask := 0xFF }).set 11
      { enabled := true, mode := 5, units := 0x3F, value := 0xEE, mask := 0xFF })
    pools := PlanTables.powerOn.pools.set 3 { members := 0x03, selectCounter := 3 }
    reserve := PlanTables.powerOn.reserve.set 0 { apply := 0x01, target := some .gen, setpoint := 4000 } }

/-- The plan is committed; every unit is UNKNOWN. -/
def planned : State := { linked with plan := plan, dispatcher := .directed }

/-- Units 0 and 1 rest in ST. -/
def resting : State :=
  (planned.updUnit 0 fun r => { r with mode := .settled .st }).updUnit 1 fun r => { r with mode := .settled .st }

/-- A transition of unit 0 from ST to GEN in its first phase. -/
def going : Transition :=
  { unit := 0, route := 0, origin := .st, target := .gen, source := .dispatch, reference := 7, setpoint := 500
    phaseNo := 1, phaseState := .running, retriesUsed := 0, deadline := 9000, heldConverter := none
    heldWaterway := none, lastLanding := .st, cut := none }

/-- Unit 0 moves. -/
def moving (x : Transition) : State := resting.updUnit 0 fun r => { r with transition := some x }

/-- An order for unit 0. -/
def queued : Order :=
  { tag := 9, origin := .dispatch, target := .unit 0, mode := .gen, setpoint := 100, expiry := some 4000, age := 0 }

/-- A pool order of pool 3 for GEN. -/
def pooled : Order := { queued with target := .pool 3 }

/-- A pending reserve claim of line A. -/
def claimA : ReserveClaim := { line := .a, target := .gen, setpoint := 4000 }

/-- Unit 0 is SILENT, and an order and a reserve claim wait for it. -/
def burdened (s : State) : State :=
  { s.updUnit 0 fun r => { r with silent := true, reserveClaim := some claimA } with orders := [queued] }

/-- A transition that the waiting order has marked to be cut. -/
def cutting : Transition := { going with target := .scg, cut := some { origin := .dispatch, tag := 9 } }

/-- Two pool orders wait. -/
def twoPooled : State := { resting with orders := [pooled, { pooled with tag := 10 }] }

/-- Line A claims units 0 and 1 besides what already waits for unit 0. -/
def twoClaimed : State :=
  burdened
    { resting with
      plan := { plan with reserve := plan.reserve.set 1 { apply := 0x01, target := some .gen, setpoint := 7 } } }

/-- The master silence timer runs out with an order queued and the program RUNNING. -/
def silencing : State :=
  { resting with
    masterDeadline := some 30, now := 30, orders := [queued]
    program := { Program.reset with running := true, captured := some Row.powerOn } }

def head (table : Byte) (index : Half) : RequestHead := { src := 0x02, ident := 0, tag := 5, table := table, index := index }

/-- A status word followed by power and speed 0. -/
def reportOf (w : Word) : List Byte := wordBytes w ++ [0, 0, 0, 0]

/-- DISPATCH STATUS and ALERT telegrams and the others that a port has to send, as their payloads. -/
def sent (p : PortName) (t : State) : List (List Byte) := (t.port p).originated.map fun x => x.payload

/-- The unit port is transmitting. -/
def sending : State :=
  { linked with
    unitPort :=
      { upPort [] [] with transmitting := some { telegram := note, queue := .forwarded, counted := true, ends := 1 } } }

/-- The answer to RESET. -/
def resetAnswer : Telegram := answerTelegram 5 16 .ok 0 []

/-- RESET_PENDING is set, and the answer to RESET is in transmission or still waits in the plant port's queue. -/
def answering (transmitted : Bool) : State :=
  { resting with
    resetPending := true
    plantPort :=
      if transmitted then
        { upPort [] [] with
          transmitting := some { telegram := resetAnswer, queue := .originated, counted := true, ends := 1 } }
      else upPort [resetAnswer] [] }

/-- Counters 0 and 2 of unit 0 count its seconds in GEN and are about to wrap, with `ms` milliseconds measured. -/
def counting (ms : Fin 1000) : State :=
  (resting.updUnit 0 fun r => { r with mode := .settled .gen }).updDuty 0 fun d =>
    { d with
      event := #v[.secondsGen, .secondsMoving, .secondsGen, .none], enable := 7, notify := 1, freezeOnOverflow := true
      value := #v[0xFFFFFFFF, 3, 4, 0], accumulator := #v[ms, ms, ms, 0] }

/-! ## Well-formedness -/

theorem test_wf_refuses_long_payload :
    (Instr.dispatchOrder 2 0 0 (List.replicate 65 0)).wf = false ∧
      (Instr.dispatchOrder 2 0 0 (List.replicate 64 0)).wf = true ∧
      (Instr.unitReport 2 0x10 0 0 (List.replicate 65 0)).wf = false ∧
      (Instr.waterwayReport 2 0x1A 0 0 (List.replicate 65 0)).wf = false ∧
      (Instr.requestWhileResetPending 2 0 0 (List.replicate 65 0)).wf = false ∧
      (Instr.status (head 0 0) (List.replicate 61 0)).wf = false ∧
      (Instr.status (head 0 0) (List.replicate 60 0)).wf = true := by
  decide +kernel

theorem test_wf_refuses_good_frame : (Instr.frameDiscarded .unit (telegramBytes note)).wf = false := by decide +kernel

theorem test_wf_refuses_other_routing :
    (Instr.droppedForeign .plant note).wf = false ∧ (Instr.droppedForeign .plant stray).wf = true ∧
      (Instr.supervisoryTelegram .plant stray).wf = false ∧ (Instr.supervisoryTelegram .plant note).wf = true := by
  decide +kernel

theorem test_wf_refuses_known_requests :
    (Instr.noSuchRequest (head 0 0) 16 []).wf = false ∧ (Instr.noSuchRequest (head 0 0) 17 []).wf = true ∧
      (Instr.noSuchRequest (head 0 0) 1 []).wf = false ∧ (Instr.noSuchRequest (head 0 0) 0 []).wf = true ∧
      (Instr.shortManagementRequest 2 0 0 [1, 2, 3, 4]).wf = false ∧
      (Instr.shortManagementRequest 2 0 0 [1, 2, 3]).wf = true ∧
      (Instr.counterControlBadValue (head 0 0) [5]).wf = false ∧
      (Instr.counterControlBadValue (head 0 0) [6]).wf = true := by
  decide +kernel

/-! ## Steps -/

theorem test_crc_check_value :
    crc [0x31, 0x32, 0x33, 0x34, 0x35, 0x36, 0x37, 0x38, 0x39] = 0xCBF43926#32 := by decide +kernel

theorem test_idle_from_reset :
    (match step State.reset with
      | .next t => t.now
      | .fault _ => 0
      | .refused _ => 0) = 1 := by
  decide +kernel

theorem test_idle_begins_a_transmission :
    ({ linked with unitPort := upPort [stray] [note] } : State).dueCommands = [.transmitStart .unit] ∧
    linked.dueCommands = [] := by
  and_intros <;> decide +kernel

theorem test_powerOnReset :
    (ran (.powerOnReset { trip := 0x80, out := 0x01, reserveA := true, reserveB := false } true false) planned).map
        (fun t => ((t.unit 7).mode, t.dispatcher, [(t.unit 0).outDebounce, t.reserveA.debounce, t.plantPort.linkFilter],
          t.plantPort.counters.transmitDrops)) =
      some (.tripped, .unplanned, [some 100, some 50, some 100], 1) := by
  decide +kernel

theorem test_softReset :
    (ran (.softReset { trip := 0x01, out := 0x80, reserveA := false, reserveB := false })
        { moving going with resetPending := true }).map
        (fun t => ((t.unit 0).mode, (t.unit 0).transition.isNone, t.dispatcher, sent .plant t)) =
      some (.tripped, true, .unplanned, [[1, 0, 0, 0]]) := by
  decide +kernel

theorem test_linkUp_linkDown :
    (ran (.linkUp .unit) State.reset).map (fun t => (t.unitPort.link, t.plantPort.link)) = some (true, false) ∧
      (ran (.linkDown .plant) { linked with plantPort := upPort [stray] [note, note] }).map
          (fun t => (t.plantPort.link, t.plantPort.originated, t.plantPort.counters.transmitDrops)) =
        some (false, [], 3) := by
  decide +kernel

theorem test_frameDiscarded :
    (ran (.frameDiscarded .unit [0, 0, 0, 0]) linked).map (fun t => t.unitPort.counters.crcErrors) = some 1 ∧
      (ran (.frameDiscarded .unit (List.replicate 77 0)) linked).map (fun t => t.unitPort.counters.malformed) =
        some 1 := by
  decide +kernel

theorem test_droppedForeign :
    (ran (.droppedForeign .plant stray) linked).map
        (fun t => (t.plantPort.counters.receivedGood, t.plantPort.counters.droppedForeign)) = some (1, 1) := by
  decide +kernel

theorem test_dispatchOrder_starts :
    (ran (.dispatchOrder 0x02 0 7 [0, 0, 1, 1, 0xF4, 0, 0]) resting).map
        (fun t => ((t.unit 0).transition == some going, sent .plant t, sent .unit t)) =
      some (true, [[0, 7, 1, 0, 0, 1, 1], [0, 7, 2, 0, 0, 1, 1]], [[0x20, 0, 0, 0xFF, 0, 1]]) := by
  decide +kernel

theorem test_dispatchOrder_malformed :
    (ran (.dispatchOrder 0x02 0 7 [0, 0]) resting).map (sent .plant) = some [[0, 7, 4, 1, 0xFF, 0xFF, 1]] := by
  decide +kernel

theorem test_unitReport_drift :
    (ran (.unitReport 0x02 0x10 0 0 (reportOf 0x11)) resting).map
        (fun t => ((t.unit 0).mode, sent .plant t, t.plantPort.forwarded.length)) =
      some (.settled .gen, [[4, 0, 0, 1]], 1) := by
  decide +kernel

theorem test_unitReport_next_phase :
    (ran (.unitReport 0x02 0x10 0 0 (reportOf 1)) (moving going)).map
        (fun t => ((t.unit 0).transition.map fun x => (x.phaseNo, x.deadline), sent .unit t)) =
      some (some (2, 6000), [[0x21, 1, 0xF4, 0xFF, 0, 2]]) := by
  decide +kernel

theorem test_waterwayReport :
    (ran (.waterwayReport 0x02 0x1A 0 0 [1, 0, 5]) planned).map
        (fun t => ((t.waterway 0).alarm, (t.waterway 0).lastLevel, sent .plant t)) =
      some (true, some 5, [[8, 0, 0, 1]]) := by
  decide +kernel

theorem test_supervisoryTelegram :
    (ran (.supervisoryTelegram .plant note) (moving going)).map (fun t => t.unitPort.forwarded) = some [note] ∧
      (ran (.supervisoryTelegram .plant note)
          { moving going with guardTable := Vector.replicate 16 ⟨.hold, .hold, .hold, .hold, .hold, .hold, .hold⟩ }).map
          (fun t => ((t.unit 0).holdQueue.length, t.unitPort.forwarded)) = some (1, []) := by
  decide +kernel

theorem test_transmitStart :
    (ran (.transmitStart .unit) { linked with unitPort := upPort [stray] [note] }).map
        (fun t => (t.unitPort.transmitting.map fun x => x.telegram, t.unitPort.originated, t.unitPort.forwarded)) =
      some (some stray, [], [note]) := by
  decide +kernel

theorem test_transmissionEnd :
    (ran (.transmissionEnd .unit) sending).map (fun t => (t.unitPort.transmitting, t.unitPort.counters.forwarded)) = some (none, 1) := by
  decide +kernel

theorem test_transmissionEnd_of_the_reset_answer :
    (ran (.transmissionEnd .plant) (answering true)).map
        (fun t => (t.resetPending, t.dispatcher, t.plantPort.transmitting, t.plantPort.counters.originated)) =
      some (false, .unplanned, none, 0) := by
  decide +kernel

theorem test_own_transmission_is_not_received :
    (ran (.frameDiscarded .unit [0, 0, 0, 0]) sending).map (fun t => t.unitPort.counters.crcErrors) = some 0 ∧
      (ran (.unitReport 0x02 0x10 0 0 (reportOf 0x11)) { moving going with unitPort := sending.unitPort }).map
          (fun t => t.unitPort.counters.receivedGood) = some 0 := by
  decide +kernel

theorem test_tripLineAsserted :
    (ran (.tripLineAsserted 0) (moving going)).map
        (fun t => ((t.unit 0).mode, (t.unit 0).transition, sent .plant t)) =
      some (.tripped, none, [[0, 7, 7, 13, 0, 1, 1], [1, 0, 0, 0]]) := by
  decide +kernel

theorem test_tripLineAsserted_spares_the_cutting_order :
    (ran (.tripLineAsserted 0) (burdened (moving cutting))).map
        (fun t => (t.orders, (t.unit 0).reserveClaim, sent .plant t)) =
      some ([queued], none, [[0, 7, 7, 13, 0, 3, 1], [0, 0, 7, 13, 0, 1, 3], [1, 0, 0, 0]]) := by
  decide +kernel

theorem test_tripLineCleared :
    (ran (.tripLineCleared 0) (resting.updUnit 0 fun r => { r with tripInput := true, mode := .tripped })).map
        (fun t => ((t.unit 0).tripInput, (t.unit 0).mode)) = some (false, .tripped) := by
  decide +kernel

theorem test_outInputSet :
    (ran (.outInputSet 0) { resting with orders := [{ queued with mode := .scg }] }).map
        (fun t => ((t.unit 0).mode, t.orders, sent .plant t)) = some (.out, [], [[0, 9, 7, 14, 0, 3, 1]]) := by
  decide +kernel

theorem test_outInputClear :
    (ran (.outInputClear 0) (resting.updUnit 0 fun r => { r with outInput := true, mode := .out })).map
        (fun t => (t.unit 0).mode) = some .unknown := by
  decide +kernel

theorem test_assertionEvent :
    (ran (.assertionEvent .a) resting).map
        (fun t => ((t.unit 0).transition.map fun x => x.source, sent .plant t, t.reserveA.seen)) =
      some (some .reserve, [[6, 0, 0, 1], [0, 0, 2, 0, 0, 1, 3]], true) := by
  decide +kernel

theorem test_reserveRelease :
    (ran (.reserveRelease .a) { resting with reserveA := { level := true, seen := true, debounce := none } }).map
        (fun t => (t.reserveA.level, t.reserveA.seen)) = some (false, true) := by
  decide +kernel

theorem test_unitSilenceExpiry :
    (ran (.unitSilenceExpiry 0) { resting with now := 5000 }).map (fun t => ((t.unit 0).silent, sent .plant t)) =
      some (true, [[3, 0, 0, 1]]) := by
  decide +kernel

theorem test_waterwaySilenceExpiry :
    (ran (.waterwaySilenceExpiry 0) { resting with now := 5000 }).map
        (fun t => ((t.waterway 0).alarm, (t.waterway 0).silenceDeadline, sent .plant t)) =
      some (true, none, [[8, 0, 0, 2]]) := by
  decide +kernel

theorem test_masterSilenceExpiry :
    (ran .masterSilenceExpiry { resting with masterDeadline := some 0, orders := [{ queued with target := .pool 0 }] }).map
        (fun t => (t.dispatcher, t.orders, sent .plant t)) =
      some (.autonomous, [], [[0, 9, 9, 15, 0xFF, 1, 1], [5, 1, 0, 1]]) := by
  decide +kernel

theorem test_phaseDeadlineExpiry :
    (ran (.phaseDeadlineExpiry 0) { moving going with now := 9000 }).map
        (fun t => ((t.unit 0).transition.map fun x => (x.retriesUsed, x.deadline), sent .unit t, sent .plant t)) =
      some (some (1, 18000), [[0x20, 0, 0, 0xFF, 0, 1]], [[2, 0, 1, 1]]) := by
  decide +kernel

theorem test_phaseDeadlineExpiry_aborts :
    (ran (.phaseDeadlineExpiry 0) { moving { going with retriesUsed := 1 } with now := 9000 }).map
        (fun t => ((t.unit 0).mode, (t.unit 0).transition, sent .unit t, sent .plant t)) =
      some (.unknown, none, [[1, 0, 0, 0xFF, 0, 0]], [[2, 0, 1, 0], [0, 7, 7, 11, 0, 1, 1]]) := by
  decide +kernel

theorem test_waitDeadlineExpiry :
    (ran (.waitDeadlineExpiry 0) { moving { going with phaseState := .waiting } with now := 9000 }).map
        (fun t => ((t.unit 0).mode, (t.unit 0).transition, sent .plant t)) =
      some (.settled .st, none, [[0, 7, 7, 12, 0, 1, 1]]) := by
  decide +kernel

theorem test_settleDeadlineReached :
    (ran (.settleDeadlineReached 0)
        (({ moving { going with phaseState := .waiting } with now := 60 } : State).updWaterway 0 fun w =>
          { w with window := .settling 60, wait := [{ unit := 0, rank := 2, requestTime := 0, serial := 0 }] })).map
        (fun t => ((t.waterway 0).window, (t.unit 0).transition.map fun x => x.phaseState)) =
      some (.held 0, some .running) := by
  decide +kernel

theorem test_orderExpiry :
    (ran (.orderExpiry 0) { planned with orders := [queued], now := 4000 }).map
        (fun t => (t.orders, sent .plant t)) = some ([], [[0, 9, 6, 0, 0, 1, 1]]) := by
  decide +kernel

theorem test_rowDeadlineReached :
    (ran .rowDeadlineReached
        { resting with
          program := { Program.reset with
            running := true, run := { start := 255, length := 2, loop := false }, currentRow := 255
            rowDeadline := some 0 } }).map
        (fun t => (t.program.currentRow, t.program.rowDeadline, t.program.running)) =
      some (0, some 3600000, true) := by
  decide +kernel

theorem test_dutySecond :
    (ran (.dutySecond 0 0) (counting 999)).map
        (fun t => ((t.dutyOf 0).value.toList, (t.dutyOf 0).accumulator.toList, (t.dutyOf 0).freeze, sent .plant t)) =
      some ([0, 3, 5, 0], [0, 999, 0, 0], true, [[9, 0, 0, 11]]) := by
  decide +kernel

theorem test_idle_counts_a_second :
    (match step (counting 999) with
      | .next t => ((t.dutyOf 0).value.toList, (t.dutyOf 0).accumulator.toList, t.now)
      | .fault _ => ([], [], 0)
      | .refused _ => ([], [], 0)) = ([0, 3, 5, 0], [0, 999, 0, 0], 1) := by
  decide +kernel

/-! ## Management requests -/

theorem test_identify_answers : (ran (.identify (head 0 0) []) linked).map (fun t => (sent .plant t).map List.length) =
    some [20] := by
  decide +kernel

theorem test_status :
    (ran (.status (head 0 1) []) (resting.updUnit 0 fun r => { r with tripSeen := true })).map
        (fun t => ((t.unit 0).tripSeen, (sent .plant t).map fun d => (d.take 5, d[14]?, d[22]?))) =
      some (false, [([2, 0, 0, 1, 1], some 0, some 0x10)]) := by
  decide +kernel

theorem test_readTable :
    (ran (.readTable (head 2 0) [2]) planned).map (sent .plant) =
      some [[3, 0, 0, 0, 1, 0, 1, 0x3F, 0, 2, 1, 1, 0, 0x3F, 2, 1]] := by
  decide +kernel

theorem test_writeTable :
    (ran (.writeTable (head 5 3) [0xFF, 2]) linked).map
        (fun t => (t.plan.pools[3], sent .plant t)) =
      some ({ members := 0xFF, selectCounter := 2 }, [[4, 0, 0, 3, 0xFF, 2]]) ∧
      (ran (.writeTable (head 5 3) [0xFF, 2]) planned).map (sent .plant) = some [[4, 5, 0, 3]] := by
  decide +kernel

theorem test_commit :
    (ran (.commit (head 0 0) []) { planned with dispatcher := .unplanned }).map
        (fun t => (t.dispatcher, t.masterDeadline, sent .plant t)) =
      some (.directed, some 3000, [[5, 0, 0, 0]]) := by
  decide +kernel

theorem test_commit_fails :
    (ran (.commit (head 0 0) [])
        { planned with
          dispatcher := .unplanned, plan := { plan with pools := plan.pools.set 0 { members := 0x40, selectCounter := 0 } } }).map
        (fun t => (t.dispatcher, sent .plant t)) = some (.unplanned, [[5, 8, 0, 0, 5, 0, 0]]) := by
  decide +kernel

theorem test_uncommit :
    (ran (.uncommit (head 0 0) []) resting).map (fun t => (t.dispatcher, sent .plant t)) =
        some (.unplanned, [[6, 0, 0, 0, 0]]) ∧
      (ran (.uncommit (head 0 0) []) (moving going)).map (fun t => (t.dispatcher, sent .plant t)) =
        some (.draining, [[6, 0, 0, 0, 3]]) := by
  decide +kernel

theorem test_setOut :
    (ran (.setOut (head 0 1) [1]) resting).map (fun t => (t.unit 1).mode) = some .out ∧
      (ran (.setOut (head 0 0) [1]) (moving going)).map (sent .plant) = some [[7, 6, 0, 0]] := by
  decide +kernel

theorem test_forceMode :
    (ran (.forceMode (head 0 2) [4]) planned).map (fun t => ((t.unit 2).mode, sent .plant t)) =
      some (.settled .scp, [[8, 0, 0, 2]]) := by
  decide +kernel

theorem test_purgeOrder :
    (ran (.purgeOrder (head 0 9) []) { planned with orders := [queued] }).map (fun t => (t.orders, sent .plant t)) =
      some ([], [[0, 9, 9, 17, 0, 1, 1], [9, 0, 0, 9, 1]]) := by
  decide +kernel

theorem test_programStart :
    (ran (.programStart (head 0 0) [255, 1, 0, 1]) resting).map
        (fun t => (t.program.running, t.program.run, t.program.currentRow, sent .plant t)) =
      some (true, { start := 255, length := 256, loop := true }, 255, [[10, 0, 0, 0]]) := by
  decide +kernel

theorem test_programRenew :
    (ran (.programRenew (head 0 0) [3, 0, 2, 0]) { resting with program := { Program.reset with running := true } }).map
        (fun t => t.program.pendingRun) = some (some { start := 3, length := 2, loop := false }) ∧
      (ran (.programRenew (head 0 0) [3, 0, 2, 0]) resting).map (sent .plant) = some [[11, 7, 0, 0]] := by
  decide +kernel

theorem test_programStop :
    (ran (.programStop (head 0 0) []) { resting with program := { Program.reset with running := true } }).map
        (fun t => t.program.running) = some false := by
  decide +kernel

theorem test_counterWrite :
    (ran (.counterWrite (head 0 31) [0, 0, 1, 2]) linked).map (fun t => (t.dutyOf 7).value) =
      some #v[0, 0, 0, 0x102] := by
  decide +kernel

theorem test_counterControl :
    (ran (.globalFreezeSet (head 0 0)) linked).map (fun t => t.globalFreeze) = some true ∧
      (ran (.globalFreezeClear (head 0 0)) { linked with globalFreeze := true }).map (fun t => t.globalFreeze) =
        some false ∧
      (ran (.unitFreezeSet (head 0 7)) linked).map (fun t => (t.dutyOf 7).freeze) = some true ∧
      (ran (.unitFreezeClear (head 0 7)) (linked.updDuty 7 fun d => { d with freeze := true })).map
          (fun t => (t.dutyOf 7).freeze) = some false ∧
      (ran (.clearOverflowLatches (head 0 0xFF)) (linked.updDuty 7 fun d => { d with latches := 5, summary := true })).map
          (fun t => ((t.dutyOf 7).latches, (t.dutyOf 7).summary)) = some (0, false) := by
  decide +kernel

theorem test_readClear :
    (ran (.readClear (head 0 1) [])
        { linked with unitPort := { upPort [] [] with counters := ⟨1, 2, 3, 4, 5, 6, 7, 8⟩ } }).map
        (fun t => (t.unitPort.counters, (sent .plant t).map fun d => d.take 8)) =
      some (Counters.zero, [[15, 0, 0, 1, 0, 0, 0, 1]]) := by
  decide +kernel

theorem test_reset :
    (ran (.reset (head 0 0) []) linked).map (fun t => (t.resetPending, sent .plant t)) =
      some (true, [[16, 0, 0, 0]]) := by
  decide +kernel

theorem test_requests_without_effect :
    (ran (.noSuchRequest (head 0 0) 17 []) linked).map (sent .plant) = some [[17, 1, 0, 0]] ∧
      (ran (.shortManagementRequest 0x02 0 5 [7]) linked).map (sent .plant) = some [[7, 4, 0, 0]] ∧
      (ran (.requestWhileResetPending 0x02 0 5 [1, 0, 0, 0]) { linked with resetPending := true }).map (sent .plant) =
        some [] ∧
      (ran (.counterControlBadValue (head 0 0) [6]) linked).map (sent .plant) = some [[14, 4, 0, 0]] := by
  decide +kernel

/-! ## States and operands that meet the hypotheses of the statements -/

theorem witness_StepRunsTheFrontCommand :
    ({ State.reset with pending := [.masterSilenceExpiry] } : State).pending = .masterSilenceExpiry :: [] := by
  decide +kernel

theorem witness_IdleStepRunsWhatIsDueOrTicks :
    ({ State.reset with now := 5000 } : State).pending = [] ∧
    ({ State.reset with now := 5000 } : State).dueCommands.head? = some (.unitSilenceExpiry 0) ∧
    State.reset.pending = [] ∧
    State.reset.dueCommands = [] ∧
    (counting 999).pending = [] ∧
    (counting 999).dueCommands = [] ∧
    (counting 999).secondCondition 0 ((counting 999).eventOf 0 0) = true ∧
    (counting 999).canCount 0 0 = true ∧
    ((counting 999).dutyOf 0).accumulator[0].val = 999 ∧
    (counting 999).counterValue 0 0 = 0xFFFFFFFF#32 ∧
    ((counting 998).dutyOf 0).accumulator[0].val ≠ 999 ∧
    (counting 999).secondCondition 0 ((counting 999).eventOf 0 1) = false := by
  and_intros <;> decide +kernel

/-- RESET_PENDING is set, and the answer has left. -/
def softDue : State := { resting with resetPending := true }

theorem witness_SoftResetUnitRecords :
    softDue.resetPending = true ∧
    (∀ x ∈ softDue.plantPort.originated, isResetAnswer x = false) ∧
    (5 : UnitNo).val < softDue.plan.station.unitCount.toNat ∧
    softDue.plan.station.unitCount.toNat ≤ (6 : UnitNo).val := by
  and_intros <;> decide +kernel

theorem witness_SoftResetBlocksPortsAndCounters :
    softDue.resetPending = true ∧
    (∀ x ∈ softDue.plantPort.originated, isResetAnswer x = false) ∧
    (0 : WaterwayNo).val < softDue.plan.station.waterwayCount.toNat ∧
    softDue.plan.station.waterwayCount.toNat ≤ (1 : WaterwayNo).val ∧
    Lines.clear.trip = 0 := by
  and_intros <;> decide +kernel

theorem witness_SoftResetWaitsForTheReport :
    isResetAnswer resetAnswer = true ∧
    isResetAnswer note = false ∧
    State.reset.resetPending = false ∧
    (∃ x ∈ (answering false).plantPort.originated, isResetAnswer x = true) ∧
    softDue.resetPending = true ∧
    (∀ x ∈ softDue.plantPort.originated, isResetAnswer x = false) ∧
    softDue.plantPort.transmitting = none ∧
    (answering true).resetPending = true ∧
    (answering true).plantPort.originated = [] ∧
    (answering true).plantPort.transmitting =
      some { telegram := resetAnswer, queue := .originated, counted := true, ends := 1 } ∧
    (answering true).plantPort.link = true ∧
    (answering false).plantPort.link = true := by
  and_intros <;> decide +kernel

/-- Both ports UP, with queues of these lengths. -/
def filled (originated forwarded : Nat) : State :=
  { linked with
    plantPort := upPort (List.replicate originated note) (List.replicate forwarded note)
    unitPort := upPort (List.replicate originated note) (List.replicate forwarded note) }

theorem witness_LinkStateFollowsLinkOk :
    (linked.port .plant).link = true ∧
    (State.reset.port .unit).link = false ∧
    linked.resetPending = false ∧
    softDue.resetPending = true ∧
    ((filled 1 1).port .plant).transmitting = none ∧
    (∀ x ∈ ((filled 1 1).port .plant).originated ++ ((filled 1 1).port .plant).forwarded, isResetAnswer x = false) := by
  and_intros <;> decide +kernel

/-- Seven bytes with their CRC: a frame of 11 bytes. -/
def shortFrame : List Byte := [1, 2, 3, 4, 5, 6, 7] ++ wordBytes (crc [1, 2, 3, 4, 5, 6, 7])

/-- A body of 8 bytes whose LEN is `n`, with its CRC. -/
def framed (n : Byte) : List Byte := [1, 2, 3, 0, 0, 0, 0, n] ++ wordBytes (crc [1, 2, 3, 0, 0, 0, 0, n])

/-- A frame passes the CRC check. -/
abbrev CrcAgrees (bytes : List Byte) : Prop :=
  4 < bytes.length ∧ bytes.drop (bytes.length - 4) = wordBytes (crc (bytes.take (bytes.length - 4)))

theorem witness_ReceiveChecksDiscardAndCount :
    (State.reset.port .unit).link = false ∧
    (linked.port .unit).link = true ∧
    76 < (List.replicate 77 (0 : Byte)).length ∧
    (List.replicate 76 (0 : Byte)).length ≤ 76 ∧
    ¬ CrcAgrees (List.replicate 76 0) ∧
    ¬ CrcAgrees [0, 0, 0, 0] ∧
    CrcAgrees shortFrame ∧
    shortFrame.length = 11 ∧
    CrcAgrees (framed 65) ∧
    64 < ((framed 65).getD 7 0).toNat ∧
    CrcAgrees (framed 1) ∧
    (framed 1).length ≠ ((framed 1).getD 7 0).toNat + 12 ∧
    linked.unitPort.transmitting = none ∧
    sending.unitPort.transmitting ≠ none := by
  and_intros <;> decide +kernel

theorem witness_SentTelegramsPassTheReceiveChecks :
    ({ note with payload := List.replicate 64 0 } : Telegram).payload.length ≤ 64 ∧
    ({ note with payload := [] } : Telegram).payload.length ≤ 64 := by
  and_intros <;> decide +kernel

theorem witness_TelegramsArePlacedOrDropped :
    ((filled 15 31).port .plant).link = true ∧
    ((filled 15 31).port .plant).originated.length < 16 ∧
    16 ≤ ((filled 16 32).port .plant).originated.length ∧
    ((filled 15 31).port .plant).forwarded.length < 32 ∧
    32 ≤ ((filled 16 32).port .plant).forwarded.length ∧
    (State.reset.port .unit).link = false := by
  and_intros <;> decide +kernel

theorem witness_TransmitterServesOriginatedFirst :
    ((filled 1 1).port .unit).link = true ∧
    ((filled 1 1).port .unit).transmitting = none ∧
    ((filled 1 1).port .unit).originated = note :: [] ∧
    ((filled 0 1).port .unit).originated = [] ∧
    ((filled 0 1).port .unit).forwarded = note :: [] ∧
    ((filled 0 0).port .unit).forwarded = [] ∧
    (sending.port .unit).transmitting ≠ none ∧
    (State.reset.port .unit).link = false ∧
    sending.resetPending = false ∧
    (resting.resetPending = false ∨ isResetAnswer note = false) ∧
    .transmissionEnd .unit ∈ ({ sending with now := 1 } : State).dueCommands ∧
    .transmissionEnd .unit ∉ sending.dueCommands := by
  and_intros <;> decide +kernel

theorem witness_ForeignTelegramsAreDropped :
    (Instr.supervisoryTelegram .plant note).telegram? = some (.plant, note) ∧
    (State.reset.port .plant).link = false ∧
    (linked.port .plant).link = true ∧
    64 < ({ note with payload := List.replicate 65 0 } : Telegram).payload.length ∧
    stray.payload.length ≤ 64 ∧
    DroppedAsForeign .plant stray ∧
    DroppedAsForeign .plant { note with dst := 0x01 } ∧
    DroppedAsForeign .unit { stray with kind := 0x0A } ∧
    DroppedAsForeign .plant { stray with kind := 0x0F } ∧
    DroppedAsForeign .unit { stray with kind := 0x01, dst := 0x01 } ∧
    DroppedAsForeign .plant { stray with kind := 0x03 } ∧
    DroppedAsForeign .plant { stray with kind := 0x08 } ∧
    sending.unitPort.transmitting ≠ none ∧
    linked.Receives .plant ∧
    linked.Receives .unit ∧
    sending.Receives .plant := by
  and_intros <;> decide +kernel

/-- Only the last match entry is enabled, for every telegram of kind 0x33. -/
def matching : State :=
  { linked with matchTable := linked.matchTable.set 23 { MatchEntry.powerOn with enabled := true, kind := some 0x33, cls := 15 } }

theorem witness_ClassAndColumnOfASupervisoryTelegram :
    (matching.matchTable[23]).matchesTelegram .plant note = true ∧
    (∀ j : Fin 24, j < 23 → (matching.matchTable[j.val]).enabled = false) ∧
    (∀ i : Fin 24, (linked.matchTable[i.val]).enabled = false) ∧
    planned.unitAt 0x15 = some 5 ∧
    planned.unitAt 0x16 = none ∧
    (planned.unit 0).mode = .unknown ∧
    (moving going).unit 0 ≠ resting.unit 0 ∧
    (resting.unit 0).transition = none := by
  and_intros <;> decide +kernel

/-- Unit 0 moves, every guard action is `a`, and unit 0's hold queue holds n telegrams. -/
def guarded (a : GuardAction) (n : Nat) : State :=
  { (moving going).updUnit 0 fun r => { r with holdQueue := List.replicate n { telegram := note, cls := 0, port := .plant } } with
    guardTable := Vector.replicate 16 ⟨a, a, a, a, a, a, a⟩ }

theorem witness_GuardForwardsDropsOrHolds :
    (guarded .hold 0).Receives .plant ∧
    (guarded .drop 0).Receives .unit ∧
    note.payload.length ≤ 64 ∧
    0x10 ≤ note.kind.toNat ∧
    note.dst ≠ 0x01 ∧
    (guarded .drop 0).unitAt (State.concerned .plant { note with dst := 0xFF }) = none ∧
    (guarded .drop 0).guardTable[0].nonUnit = .drop ∧
    (guarded .hold 0).guardTable[0].nonUnit ≠ .drop ∧
    (guarded .hold 0).unitAt (State.concerned .plant note) = some 0 ∧
    (guarded .hold 0).classify .plant note = 0 ∧
    ((guarded .hold 0).unit 0).column = .moving ∧
    (guarded .drop 0).guardTable[0].action .moving = .drop ∧
    (guarded .forward 0).guardTable[0].action .moving = .forward ∧
    (guarded .hold 0).guardTable[0].action .moving = .hold ∧
    (resting.unit 0).column ≠ .moving ∧
    ((guarded .hold 3).unit 0).holdQueue.length < 4 ∧
    4 ≤ ((guarded .hold 4).unit 0).holdQueue.length ∧
    (guarded .drop 4).unitPort.link = true ∧
    (guarded .drop 4).unitPort.forwarded.length + ((guarded .drop 4).unit 0).holdQueue.length ≤ 32 ∧
    (∀ h ∈ ((guarded .drop 4).unit 0).holdQueue, h.port = .plant) := by
  and_intros <;> decide +kernel

/-- Entry i of the demonstration plan applies to unit u and matches the word w. -/
abbrev Hits (i : Fin 12) (u : UnitNo) (w : Word) : Prop :=
  plan.recognition[i.val].enabled = true ∧ plan.recognition[i.val].units.getLsbD u.val = true ∧
    plan.recognition[i.val].mode.val ≤ 5 ∧
    w &&& plan.recognition[i.val].mask = plan.recognition[i.val].value &&& plan.recognition[i.val].mask

theorem witness_UnitReportsAreReadAndRecognised_recognition :
    Hits 11 0 0xEE ∧
    plan.recognition[11].mode = 5 ∧
    (∀ j, j < 11 → ¬ (Hits j 0 0xEE ∧ plan.recognition[j.val].mode = 5)) ∧
    (∀ j, ¬ (Hits j 0 0x11 ∧ plan.recognition[j.val].mode = 5)) ∧
    Hits 1 0 0x11 ∧
    (∀ j, j < 1 → ¬ Hits j 0 0x11) ∧
    (modeCode .gen).toNat = plan.recognition[1].mode.val ∧
    (∀ j, ¬ Hits j 0 0x77) ∧
    ((moving going).unit 0).transition ≠ none ∧
    (resting.unit 0).transition = none := by
  and_intros <;> decide +kernel

theorem witness_UnitReportsAreReadAndRecognised :
    planned.Receives .unit ∧
    planned.unitAt 0x16 = none ∧
    planned.unitAt 0x15 = some 5 ∧
    (reportOf 1 ++ [0]).length ≠ 8 ∧
    (reportOf 1 ++ [0]).length ≤ 64 := by
  and_intros <;> decide +kernel

/-- Unit 0 at rest in any condition. -/
def inMode (m : UnitMode) (trip : Bool) : State := resting.updUnit 0 fun r => { r with mode := m, tripInput := trip }

theorem witness_UnitReportAtRest :
    resting.Receives .unit ∧
    resting.unitAt 0x10 = some 0 ∧
    resting.DispatcherStateSound ∧
    resting.orders = [] ∧
    (resting.unit 0).transition = none ∧
    (resting.unit 0).reserveClaim = none ∧
    (resting.unit 0).silent = false ∧
    ((inMode .out false).unit 0).mode = .out ∧
    ((inMode .unknown false).unit 0).mode = .unknown ∧
    ((inMode .tripped true).unit 0).tripInput = true ∧
    ((inMode .tripped false).unit 0).mode = .tripped ∧
    (inMode .unknown false).recognise 0 0xEE = .trip 11 ∧
    (inMode .unknown false).recognise 0 0x10 = .mode .st ∧
    (inMode .unknown false).recognise 0 0x77 = .none ∧
    resting.recognise 0 0xEE = .trip 11 ∧
    resting.recognise 0 0x10 = .mode .st ∧
    resting.recognise 0 0x11 = .mode .gen ∧
    resting.recognise 0 0x77 = .none ∧
    (inMode .tripped true).recognise 0 0xEE = .trip 11 ∧
    (inMode .tripped true).recognise 0 0x11 = .mode .gen ∧
    (inMode .tripped false).recognise 0 0x77 = .none ∧
    (burdened resting).Receives .unit ∧
    (burdened resting).unitAt 0x10 = some 0 ∧
    ((burdened resting).unit 0).transition = none ∧
    ((burdened resting).unit 0).silent = true ∧
    ((burdened (inMode .out false)).unit 0).mode = .out ∧
    ((burdened (inMode .unknown false)).unit 0).mode = .unknown ∧
    ((burdened (inMode .tripped false)).unit 0).tripInput = false ∧
    (burdened resting).recognise 0 0xEE = .trip 11 ∧
    (burdened resting).recognise 0 0x11 = .mode .gen ∧
    (burdened resting).recognise 0 0x77 = .none := by
  and_intros <;> decide +kernel

/-- Unit 0 in the last phase of its route. -/
def lastGoing : Transition := { going with phaseNo := 2 }

/-- Unit 0 holds the converter and the window. -/
def holding : Transition := { going with heldConverter := some 0, heldWaterway := some 0 }

theorem witness_ReportCompletesTheRunningPhase :
    (moving going).Receives .unit ∧
    (moving going).unitAt 0x10 = some 0 ∧
    ((moving going).unit 0).mode = .settled .st ∧
    ((moving going).unit 0).transition = some going ∧
    (∀ i, (moving going).recognise 0 1 ≠ .trip i) ∧
    going.phaseState = .running ∧
    (1 : Word) &&& ((moving going).phaseAt 0 1).statusMask =
      ((moving going).phaseAt 0 1).statusValue &&& ((moving going).phaseAt 0 1).statusMask ∧
    ((moving going).unit 0).silent = false ∧
    (7 : Word) &&& ((moving going).phaseAt 0 1).statusMask ≠
      ((moving going).phaseAt 0 1).statusValue &&& ((moving going).phaseAt 0 1).statusMask ∧
    (moving going).orders = [] ∧
    ((moving going).unit 0).reserveClaim = none ∧
    ((moving going).unit 0).holdQueue = [] ∧
    (moving going).dispatcher ≠ .draining ∧
    going.heldConverter = none ∧
    going.heldWaterway = none ∧
    going.cut = none ∧
    lastGoing.phaseNo = (moving lastGoing).plan.routes[0].phaseCount ∧
    (2 : Word) &&& ((moving lastGoing).phaseAt 0 2).statusMask =
      ((moving lastGoing).phaseAt 0 2).statusValue &&& ((moving lastGoing).phaseAt 0 2).statusMask ∧
    (∀ i, (moving lastGoing).recognise 0 2 ≠ .trip i) ∧
    (moving going).DispatcherStateSound ∧
    going.phaseNo ≠ (moving going).plan.routes[0].phaseCount ∧
    ((moving going).phaseAt 0 2).claim = .none ∧
    ((moving holding).unit 0).transition = some holding ∧
    (∀ i, (moving holding).recognise 0 1 ≠ .trip i) ∧
    holding.phaseState = .running ∧
    ({ holding with cut := some { origin := .dispatch, tag := 9 } } : Transition).cut ≠ none ∧
    ({ holding with phaseNo := 2 } : Transition).phaseNo = (moving holding).plan.routes[0].phaseCount ∧
    holding.cut = none ∧
    holding.phaseNo ≠ (moving holding).plan.routes[0].phaseCount ∧
    (burdened (moving cutting)).Receives .unit ∧
    ((burdened (moving cutting)).unit 0).mode = .settled .st ∧
    ((burdened (moving cutting)).unit 0).transition = some cutting ∧
    ((burdened (moving cutting)).unit 0).silent = true ∧
    (burdened (moving cutting)).recognise 0 0xEE = .trip 11 ∧
    (∀ i, (burdened (moving cutting)).recognise 0 1 ≠ .trip i) ∧
    cutting.phaseState = .running ∧
    cutting.cut ≠ none ∧
    ({ cutting with phaseState := .waiting } : Transition).phaseState = .waiting := by
  and_intros <;> decide +kernel

theorem witness_TripLineTripsItsUnit :
    resting.DispatcherStateSound ∧
    (inMode .tripped false).DispatcherStateSound ∧
    (inMode .out false).DispatcherStateSound ∧
    (moving going).DispatcherStateSound ∧
    resting.plan.station.unitCount.toNat ≤ (6 : UnitNo).val ∧
    (5 : UnitNo).val < resting.plan.station.unitCount.toNat ∧
    ((inMode .tripped true).unit 0).tripInput = true ∧
    ((inMode .tripped false).unit 0).tripInput = false ∧
    ((inMode .tripped false).unit 0).transition = none ∧
    ((inMode .out false).unit 0).mode = .out ∧
    (resting.unit 0).mode ≠ .tripped ∧
    (resting.unit 0).mode ≠ .out ∧
    (resting.unit 0).tripInput = false ∧
    (resting.unit 0).transition = none ∧
    (resting.unit 0).reserveClaim = none ∧
    resting.orders = [] ∧
    ((moving going).unit 0).tripInput = false ∧
    ((moving going).unit 0).mode ≠ .tripped ∧
    ((moving going).unit 0).mode ≠ .out ∧
    ((moving going).unit 0).transition ≠ none ∧
    ((moving holding).unit 0).transition ≠ none ∧
    ((moving holding).unit 0).reserveClaim = none ∧
    (moving holding).orders = [] ∧
    (moving holding).dispatcher ≠ .draining ∧
    (moving holding).DispatcherStateSound ∧
    ((moving holding).unit 0).tripInput = false ∧
    (0 : UnitNo).val < (burdened (moving cutting)).plan.station.unitCount.toNat ∧
    ((burdened (moving cutting)).unit 0).tripInput = false ∧
    ((burdened (moving cutting)).unit 0).mode ≠ .tripped ∧
    ((burdened (moving cutting)).unit 0).mode ≠ .out ∧
    ((burdened (moving cutting)).unit 0).transition ≠ none ∧
    ((burdened resting).unit 0).transition = none := by
  and_intros <;> decide +kernel

/-- Unit 0 is held out by its line, by management, or by both. -/
def heldOut (line management : Bool) : State :=
  resting.updUnit 0 fun r => { r with mode := .out, outInput := line, configuredOut := management }

theorem witness_OutLineTakesItsUnitOutAndReleasesIt :
    (heldOut true false).DispatcherStateSound ∧
    (moving going).DispatcherStateSound ∧
    resting.plan.station.unitCount.toNat ≤ (7 : UnitNo).val ∧
    (0 : UnitNo).val < resting.plan.station.unitCount.toNat ∧
    ((heldOut false true).unit 0).configuredOut = true ∧
    ((heldOut true false).unit 0).outInput = true ∧
    ((heldOut true false).unit 0).configuredOut = false ∧
    resting.DispatcherStateSound ∧
    (resting.unit 0).outInput = false ∧
    (resting.unit 0).configuredOut = false ∧
    (resting.unit 0).transition = none ∧
    (resting.unit 0).reserveClaim = none ∧
    resting.orders = [] ∧
    ((moving going).unit 0).outInput = false ∧
    ((moving going).unit 0).configuredOut = false ∧
    ((moving going).unit 0).transition ≠ none ∧
    ((moving holding).unit 0).transition ≠ none ∧
    ((moving holding).unit 0).reserveClaim = none ∧
    (moving holding).orders = [] ∧
    (moving holding).dispatcher ≠ .draining ∧
    (moving holding).DispatcherStateSound ∧
    ((moving holding).unit 0).outInput = false ∧
    ((burdened (moving cutting)).unit 0).outInput = false ∧
    ((burdened (moving cutting)).unit 0).configuredOut = false ∧
    ((burdened (moving cutting)).unit 0).transition ≠ none ∧
    ((burdened resting).unit 0).outInput = false ∧
    ((burdened resting).unit 0).transition = none := by
  and_intros <;> decide +kernel

theorem witness_SilenceTimersExpireAtTheirDeadline :
    (State.reset.unit 0).silenceDeadline = some 5000 ∧
    (5000 : Nat) ≤ ({ State.reset with now := 5000 } : State).now ∧
    ({ State.reset with now := 4999 } : State).now < 5000 ∧
    (State.reset.waterway 0).silenceDeadline = some 5000 ∧
    (State.reset.waterway 0).alarm = false ∧
    ((State.reset.updWaterway 0 fun w => { w with alarm := true }).waterway 0).alarm = true := by
  and_intros <;> decide +kernel

theorem witness_LookupAndSelectionTakeTheLowest :
    pooled.target = .pool 3 ∧
    resting.selectUnit pooled = some 0 ∧
    planned.selectUnit pooled = none ∧
    resting.lookupRoute 0 .st .gen = some 0 ∧
    resting.lookupRoute 0 .st .pmp = none := by
  and_intros <;> decide +kernel

/-- A state in DIRECTED with a full order queue of orders for other units. -/
def crowded : State := { resting with orders := List.replicate 16 { queued with target := .pool 0 } }

theorem witness_RefusedOrdersAreAnsweredWithTheirReason :
    resting.plantPort.link = true ∧
    ([0, 0, 1, 0x0F, 0xA0, 0] : List Byte).length ≠ 7 ∧
    1 < (([2, 0, 1, 0, 0, 0, 0] : List Byte).getD 0 0).toNat ∧
    4000 < (([0, 0, 1, 0x0F, 0xA1, 0, 0] : List Byte).getD 3 0).toNat * 256 + (([0, 0, 1, 0x0F, 0xA1, 0,
      0] : List Byte).getD 4 0).toNat ∧
    (4000 : Half).toNat ≤ 4000 ∧
    (1 : Byte).toNat ≤ 1 ∧
    linked.dispatcher = .unplanned ∧
    ({ moving going with dispatcher := .draining } : State).dispatcher = .draining ∧
    resting.dispatcher = .directed ∧
    resting.plan.station.unitCount.toNat ≤ (6 : Byte).toNat ∧
    8 ≤ (255 : Byte).toNat ∧
    4 ≤ (4 : Byte).toNat ∧
    resting.plan.pools[0].members = 0 ∧
    resting.plan.pools[3].members ≠ 0 ∧
    4 < (5 : Byte).toNat ∧
    (4 : Byte).toNat ≤ 4 ∧
    (∀ u : UnitNo, (State.updUnit 1 (fun r => { r with
      mode := .tripped }) (inMode .out false)).plan.pools[3].members.getLsbD u.val = true →
      ((State.updUnit 1 (fun r => { r with mode := .tripped }) (inMode .out false)).unit u).mode = .out ∨
      ((State.updUnit 1 (fun r => { r with mode := .tripped }) (inMode .out false)).unit u).mode = .tripped) ∧
    (∃ u : UnitNo, crowded.plan.pools[3].members.getLsbD u.val = true ∧ (crowded.unit u).mode ≠ .out ∧
      (crowded.unit u).mode ≠ .tripped) ∧
    16 ≤ crowded.orders.length ∧
    ((inMode .tripped false).unit 0).mode = .tripped ∧
    ((resting.updUnit 0 fun r => { r with reserveClaim := some claimA }).unit 0).reserveClaim ≠ none ∧
    (crowded.unit 0).reserveClaim = none ∧
    (∀ o ∈ crowded.orders, o.target ≠ .unit 0) ∧
    (crowded.unit 0).mode ≠ .out ∧
    (crowded.unit 0).mode ≠ .tripped := by
  and_intros <;> decide +kernel

theorem witness_AcceptedOrderWaits :
    planned.plantPort.link = true ∧
    planned.dispatcher = .directed ∧
    (0 : UnitNo).val < planned.plan.station.unitCount.toNat ∧
    (planned.unit 0).transition = none ∧
    (planned.unit 0).reserveClaim = none ∧
    (planned.unit 0).mode = .unknown ∧
    ((resting.updUnit 0 fun r => { r with silent := true }).unit 0).silent = true ∧
    ((resting.updUnit 0 fun r => { r with silent := true }).unit 0).mode = .settled .st ∧
    (∀ o ∈ ({ planned with orders := List.replicate 15 { queued with target := .unit 1 } } : State).orders, ∃ v,
      v ≠ 0 ∧ o.target = .unit v) ∧
    ({ planned with orders := List.replicate 15 { queued with target := .unit 1 } } : State).orders.length < 16 ∧
    ({ planned with orders := [queued] } : State).orders = [queued] ∧
    queued.target = .unit 0 ∧
    queued.origin ≠ .reserve ∧
    planned.orders = [] ∧
    (∃ u : UnitNo, planned.plan.pools[3].members.getLsbD u.val = true ∧ (planned.unit u).mode ≠ .out ∧
      (planned.unit u).mode ≠ .tripped) ∧
    planned.selectUnit { pooled with tag := 7, expiry := none } = none := by
  and_intros <;> decide +kernel

theorem witness_AcceptedOrderStartsItsTransition :
    resting.plantPort.link = true ∧
    resting.dispatcher = .directed ∧
    (4000 : Half).toNat ≤ 4000 ∧
    resting.orders = [] ∧
    (0 : UnitNo).val < resting.plan.station.unitCount.toNat ∧
    (resting.unit 0).mode = .settled .st ∧
    (resting.unit 0).silent = false ∧
    (resting.unit 0).transition = none ∧
    (resting.unit 0).reserveClaim = none ∧
    Mode.st ≠ Mode.gen ∧
    resting.lookupRoute 0 .st .gen = some 0 ∧
    resting.plan.phases[resting.plan.routes[0].firstPhase.val].claim = .none ∧
    ((inMode (.settled .gen) false).unit 0).mode = .settled .gen ∧
    (inMode (.settled .gen) false).lookupRoute 0 .gen .st = some 1 ∧
    (inMode (.settled .gen) false).plan.phases[plan.routes[1].firstPhase.val].claim = .both ∧
    (∃ k : Fin 4, resting.selectUnit { pooled with target := .pool k } = some 0) ∧
    ((moving going).unit 0).transition = some going ∧
    ((moving { going with route := 1 }).phaseAt 1 1).claim = .both ∧
    going.heldConverter = none ∧
    holding.heldConverter ≠ none ∧
    ({ holding with heldWaterway := none } : Transition).heldWaterway = none ∧
    ((moving going).phaseAt 0 1).claim = .none ∧
    ({ resting with orders := [queued] } : State).orders = [queued] ∧
    queued.target = .unit 0 ∧
    (0 : UnitNo).val < plan.station.unitCount.toNat ∧
    Mode.st ≠ queued.mode ∧
    ({ resting with orders := [queued] } : State).lookupRoute 0 .st queued.mode = some 0 ∧
    ((burdened resting).unit 0).reserveClaim = some claimA ∧
    (((burdened resting).updUnit 0 fun r => { r with silent := false }).unit 0).silent = false ∧
    ((inMode (.settled .gen) false).unit 0).mode = .settled claimA.target ∧
    claimA.target ≠ .st ∧
    (inMode (.settled .scp) false).lookupRoute 0 .scp claimA.target = none ∧
    twoPooled.orders[0]? = some pooled ∧
    twoPooled.selectUnit pooled = some 0 ∧
    (∀ q ∈ [pooled, { pooled with tag := 10 }], rank q.origin = rank pooled.origin) ∧
    ({ resting with orders := [{ queued with origin := .schedule }] } : State).orders[0]? =
      some { queued with origin := .schedule } ∧
    (∀ m ∈ State.allModes, ((inMode .tripped false).unit 0).mode ≠ .settled m) ∧
    planned.selectUnit pooled = none ∧
    twoPooled.orders = [pooled, { pooled with tag := 10 }] ∧
    pooled.target = .pool 3 ∧
    twoPooled.poolPass.orders = [] := by
  and_intros <;> decide +kernel

theorem witness_AcceptedOrderEndsAtOnce :
    resting.plantPort.link = true ∧
    resting.dispatcher = .directed ∧
    resting.orders = [] ∧
    (resting.unit 0).mode = .settled .st ∧
    (resting.unit 0).silent = false ∧
    (resting.unit 0).transition = none ∧
    (resting.unit 0).reserveClaim = none ∧
    ((inMode (.settled .gen) false).unit 0).lastSetpoint ≠ 4000 ∧
    ((inMode (.settled .gen) false).unit 0).lastSetpoint = 0 ∧
    resting.lookupRoute 0 .st .pmp = none := by
  and_intros <;> decide +kernel

theorem witness_OrderIsOfferedToTheTransition :
    (moving going).plantPort.link = true ∧
    (moving going).dispatcher = .directed ∧
    (∀ o ∈ (moving going).orders, o.target ≠ .unit 0) ∧
    (moving going).orders.length < 16 ∧
    ((moving going).unit 0).mode = .settled .st ∧
    ((moving going).unit 0).transition = some going ∧
    ((moving going).unit 0).reserveClaim = none ∧
    ({ going with source := .reserve } : Transition).source = .reserve ∧
    going.source ≠ .reserve ∧
    going.target ≠ .st ∧
    going.phaseState = .running ∧
    going.target = .gen ∧
    ({ going with phaseState := .waiting } : Transition).source = .dispatch ∧
    ({ going with phaseState := .waiting } : Transition).phaseState = .waiting ∧
    ({ going with source := .schedule } : Transition).source = .schedule := by
  and_intros <;> decide +kernel

theorem witness_OrderReturnsTheDispatcherToDirected :
    ({ resting with dispatcher := .autonomous } : State).plantPort.link = true ∧
    ({ resting with dispatcher := .autonomous } : State).dispatcher = .autonomous ∧
    (1 : Byte).toNat ≤ 1 ∧
    (4000 : Half).toNat ≤ 4000 ∧
    resting.orders = [] ∧
    resting.plan.station.unitCount.toNat ≤ (6 : Byte).toNat := by
  and_intros <;> decide +kernel

theorem witness_QueuedOrderExpires :
    planned.orders[15]? = none ∧
    ({ planned with orders := [queued], now := 4000 } : State).orders[0]? = some queued ∧
    queued.expiry = some 4000 ∧
    (4000 : Nat) ≤ ({ planned with orders := [queued], now := 4000 } : State).now ∧
    ({ planned with orders := [queued], now := 3999 } : State).now < 4000 ∧
    pooled.target = .pool 3 ∧
    queued.target = .unit 0 ∧
    (∀ q ∈ ({ planned with orders := [queued], now := 4000 } : State).orders, ∃ v, q.target = .unit v) ∧
    ((moving going).unit 0).transition = some going ∧
    (planned.unit 0).transition = none ∧
    (planned.unit 0).mode = .unknown := by
  and_intros <;> decide +kernel

/-- Unit 0's transition is at its deadline. -/
def late (x : Transition) : State := { moving x with now := 9000 }

theorem witness_DeadlinesOfATransition :
    ((moving going).unit 0).transition = some going ∧
    (moving going).now < going.deadline ∧
    going.phaseState = .running ∧
    going.deadline ≤ (late going).now ∧
    going.retriesUsed < ((late going).phaseAt 0 1).retries ∧
    ((late { going with retriesUsed := 1 }).phaseAt 0 1).retries ≤ 1 ∧
    ((late going).unit 0).mode = .settled .st ∧
    (late going).orders = [] ∧
    ((late going).unit 0).reserveClaim = none ∧
    ((late going).unit 0).holdQueue = [] ∧
    (late going).dispatcher ≠ .draining ∧
    going.heldConverter = none ∧
    going.heldWaterway = none ∧
    ({ going with phaseState := .waiting } : Transition).phaseState = .waiting ∧
    ((late holding).unit 0).transition = some holding ∧
    ((late holding).unit 0).mode = .settled .st ∧
    holding.deadline ≤ (late holding).now ∧
    (late holding).orders = [] ∧
    ((late holding).unit 0).reserveClaim = none ∧
    (late holding).dispatcher ≠ .draining := by
  and_intros <;> decide +kernel

/-- Two entries of ranks 3 and 1. -/
def waiting : List WaitEntry := [{ unit := 1, rank := 3, requestTime := 0, serial := 0 }, { unit := 2, rank := 1, requestTime := 0, serial := 1 }]

/-- Unit 0 is to run a phase that needs the converter and the window. -/
def needing : State := moving { going with route := 1, phaseState := .waiting }

theorem witness_ResourceRequestsAreGrantedOrWait :
    (∀ x ∈ waiting, x.serial < 2) ∧
    waiting.Pairwise (fun a b => b.rank ≤ a.rank) ∧
    (needing.unit 0).transition ≠ none ∧
    (0 : ConverterNo).val < needing.plan.station.converterCount.toNat ∧
    needing.converter 0 = none ∧
    (∀ d : ConverterNo, d < 0 → needing.converter d ≠ none) ∧
    (∀ c : ConverterNo, c.val < (needing.setConverter 0 (some 1)).plan.station.converterCount.toNat →
      (needing.setConverter 0 (some 1)).converter c ≠ none) ∧
    ((moving going).phaseAt 0 1).claim.hasWaterway = false ∧
    ({ going with heldWaterway := some 0 } : Transition).heldWaterway ≠ none ∧
    (needing.waterway 0).window = .free ∧
    (needing.waterway 0).alarm = false ∧
    ((needing.updWaterway 0 fun y => { y with window := .held 1 }).waterway 0).window ≠ .free ∧
    ((needing.updWaterway 0 fun y => { y with alarm := true }).waterway 0).alarm = true ∧
    (∀ e ∈ waiting, e.unit ≠ 0) ∧
    waiting.Pairwise (fun a b => b.rank < a.rank ∨ (b.rank = a.rank ∧ a.serial < b.serial)) ∧
    (needing.phaseAt 1 1).claim = .both ∧
    needing.plan.unitEntries[0].waterway = 0 ∧
    (needing.unit 0).transition = some { going with route := 1, phaseState := .waiting } ∧
    ({ going with route := 1, phaseState := .waiting } : Transition).heldWaterway = none ∧
    ((needing.updWaterway 0 fun y => { y with window := .held 1 }).unit 0).transition =
      some { going with route := 1, phaseState := .waiting } := by
  and_intros <;> decide +kernel

theorem witness_ReleasedResourcesGoToTheHead :
    ((moving holding).unit 0).transition = some holding ∧
    holding.heldConverter = some 0 ∧
    (moving holding).converterWait = [] ∧
    waiting ≠ [] ∧
    holding.heldWaterway = some 0 ∧
    (moving holding).plan.waterwayEntries[0].settleTime ≠ 0 ∧
    ({ PlanTables.powerOn with waterwayEntries := Vector.replicate 2 ⟨0, 50⟩ } : PlanTables).waterwayEntries[0].settleTime = 0 ∧
    ((moving holding).waterway 0).wait = [] ∧
    ((moving holding).waterway 0).alarm = false ∧
    ((resting.updWaterway 0 fun y => { y with window := .settling 60 }).waterway 0).window = .settling 60 ∧
    resting.now < 60 ∧
    60 ≤ ({ resting with now := 60 } : State).now ∧
    (∀ x, ((moving going).unit 0).transition = some x → x.heldConverter = none) ∧
    (∀ x, ((moving going).unit 0).transition = some x → x.heldWaterway = none) := by
  and_intros <;> decide +kernel

theorem witness_WaterwayReportSetsOrClearsAlarm :
    planned.Receives .unit ∧
    ([0, 0, 1, 0] : List Byte).length ≠ 3 ∧
    (∀ w : WaterwayNo, (0x1B : Byte).toNat ≠ 0x1A + w.val ∨ planned.plan.station.waterwayCount.toNat ≤ w.val) ∧
    (0x1A : Byte).toNat = 0x1A + (0 : WaterwayNo).val ∧
    (0 : WaterwayNo).val < planned.plan.station.waterwayCount.toNat ∧
    ([0, 0, 5] : List Byte) = [0] ++ halfBytes 5 ∧
    (planned.waterway 0).alarm = false ∧
    ((planned.updWaterway 0 fun y => { y with alarm := true, wait := waiting }).waterway 0).alarm = true ∧
    ((planned.updWaterway 0 fun y => { y with alarm := true, wait := waiting }).waterway 0).window = .free ∧
    (planned.waterway 0).wait = [] := by
  and_intros <;> decide +kernel

theorem witness_ReserveClaimFormation :
    resting.claimFor .a 0 = some claimA ∧
    resting.claimFor .b 0 = none := by
  and_intros <;> decide +kernel

theorem witness_AssertionEventActsOnItsClaims :
    resting.DispatcherStateSound ∧
    linked.DispatcherStateSound ∧
    ((resting.updReserveLine .a fun x => { x with level := true }).reserveLine .a).level = true ∧
    (resting.reserveLine .a).level = false ∧
    linked.dispatcher = .unplanned ∧
    resting.dispatcher ≠ .unplanned ∧
    (∀ u, resting.claimFor .b u = none) ∧
    resting.orders = [] ∧
    (resting.unit 0).reserveClaim = none ∧
    (resting.unit 0).mode = .settled .st ∧
    resting.claimFor .a 0 = some claimA ∧
    (∀ v, v ≠ 0 → (resting.claimFor .a v) = none) ∧
    ((moving { going with target := .st }).unit 0).transition ≠ none ∧
    (moving { going with target := .st }).claimFor .a 0 = some claimA ∧
    (∀ v, v ≠ 0 → (moving { going with target := .st }).claimFor .a v = none) ∧
    (resting.unit 0).transition = none ∧
    resting.lookupRoute 0 .st .gen = some 0 ∧
    resting.plan.phases[resting.plan.routes[0].firstPhase.val].claim = .none ∧
    (burdened resting).dispatcher ≠ .unplanned ∧
    ((burdened resting).reserveLine .a).level = false ∧
    (twoClaimed.updUnit 0 fun r => { r with silent := false }).claimsOf .a = [(0, claimA), (1, { claimA with setpoint := 7 })] ∧
    (∀ o ∈ resting.orders, o.target ≠ .unit 0) ∧
    (burdened resting).orders.filter (fun q => decide (q.target = .unit 0)) = [queued] ∧
    ((burdened (moving cutting)).unit 0).transition = some cutting ∧
    claimA.target ≠ cutting.target ∧
    cutting.phaseState = .running ∧
    ((burdened (moving { cutting with phaseState := .waiting, cut := none })).unit 0).transition =
      some { cutting with phaseState := .waiting, cut := none } := by
  and_intros <;> decide +kernel

theorem witness_MasterSilenceMakesTheDispatcherAutonomous :
    linked.dispatcher ≠ .directed ∧
    ({ resting with masterDeadline := some 30, now := 30 } : State).dispatcher = .directed ∧
    ({ resting with masterDeadline := some 30, now := 30 } : State).masterDeadline = some 30 ∧
    30 ≤ ({ resting with masterDeadline := some 30, now := 30 } : State).now ∧
    ({ resting with masterDeadline := some 30, now := 29 } : State).now < 30 ∧
    ({ resting with masterDeadline := some 30, now := 30 } : State).orders = [] ∧
    ({ resting with masterDeadline := some 30, now := 30 } : State).program.running = false ∧
    silencing.dispatcher = .directed ∧
    silencing.program.running = true ∧
    silencing.program.captured = some Row.powerOn ∧
    silencing.orders ≠ [] ∧
    ({ resting with orders := [queued] } : State).program.captured = none := by
  and_intros <;> decide +kernel

/-- The program runs its last row, whose deadline is reached. -/
def lastRowDue (loop : Bool) : State :=
  { resting with
    program := { Program.reset with
      running := true, run := { start := 255, length := 2, loop := loop }, currentRow := 0, rowDeadline := some 0 } }

/-- A row with one entry, for unit 0. -/
def oneEntry : Row := { Row.powerOn with entries := Row.powerOn.entries.set 0 { mode := some .gen, setpoint := 4000 } }

theorem witness_RowsEndAndHandTheirClaims :
    resting.program.running = false ∧
    (lastRowDue true).program.running = true ∧
    (lastRowDue true).program.rowDeadline = some 0 ∧
    0 ≤ (lastRowDue true).now ∧
    (lastRowDue true).dispatcher ≠ .autonomous ∧
    (∀ u : UnitNo, u.val < resting.plan.station.unitCount.toNat → Row.powerOn.entries[u.val].mode = none) ∧
    (0 : UnitNo).val < planned.plan.station.unitCount.toNat ∧
    oneEntry.entries[0].mode = some .gen ∧
    (∀ v : UnitNo, v ≠ 0 → oneEntry.entries[v.val].mode = none) ∧
    ((inMode .out false).unit 0).mode = .out ∧
    ((inMode .tripped false).unit 0).mode = .tripped ∧
    (planned.unit 0).mode = .unknown ∧
    (planned.unit 0).transition = none ∧
    (planned.unit 0).reserveClaim = none ∧
    planned.orders = [] ∧
    ({ lastRowDue true with dispatcher := .autonomous } : State).dispatcher = .autonomous ∧
    ({ lastRowDue true with dispatcher := .autonomous } : State).program.pendingRun = none ∧
    (lastRowDue true).program.run.loop = true ∧
    (lastRowDue false).program.run.loop = false ∧
    ((lastRowDue true).program.currentRow.toNat : Nat) = (255 + 2 + 255) % 256 ∧
    resting.plantPort.link = true ∧
    resting.dispatcher = .directed ∧
    (4000 : Half).toNat ≤ 4000 := by
  and_intros <;> decide +kernel

theorem witness_DutyEventsCountAndOverflow :
    ((resting.updDuty 0 fun d => { d with freeze := true }).dutyOf 0).freeze = true ∧
    ({ resting with globalFreeze := true } : State).globalFreeze = true ∧
    (resting.unit 0).mode = .settled .st ∧
    (resting.unit 0).mode ≠ .settled .gen ∧
    (counting 0).eventOf 0 0 = .secondsGen ∧
    (counting 0).canCount 0 0 = true ∧
    (counting 0).counterValue 0 0 = 0xFFFFFFFF#32 := by
  and_intros <;> decide +kernel

theorem witness_DutySecondCountsAWholeSecond :
    (counting 999).secondCondition 0 ((counting 999).eventOf 0 0) = true ∧
    (counting 999).canCount 0 0 = true ∧
    (counting 999).secondCondition 0 ((counting 999).eventOf 0 2) = true ∧
    (counting 999).canCount 0 2 = true ∧
    ((counting 999).dutyOf 0).accumulator[0].val = 999 ∧
    ((counting 999).dutyOf 0).accumulator[2].val = 999 ∧
    ((counting 998).dutyOf 0).accumulator[0].val ≠ 999 ∧
    (counting 999).counterValue 0 0 = 0xFFFFFFFF#32 ∧
    ((counting 999).dutyOf 0).freezeOnOverflow = true ∧
    (counting 999).eventOf 0 1 ≠ (counting 999).eventOf 0 0 := by
  and_intros <;> decide +kernel

theorem witness_RequestsWithoutEffect :
    linked.TakesRequests ∧
    ([1, 2, 3] : List Byte).length < 4 ∧
    (List.replicate 60 (0 : Byte)).length ≤ 60 ∧
    (0 : Byte) = 0 ∧
    16 < (17 : Byte).toNat ∧
    (∀ a : Byte, ([6] : List Byte) = [a] → a = 0 ∨ 5 < a.toNat) ∧
    ({ linked with resetPending := true } : State).plantPort.link = true ∧
    ({ linked with resetPending := true } : State).resetPending = true ∧
    (List.replicate 64 (0 : Byte)).length ≤ 64 ∧
    (Instr.commit (head 0 0) []).telegram? = some (.plant, requestTelegram (head 0 0) 5 []) ∧
    (requestTelegram (head 0 0) 5 []).kind = 0x03 ∧
    (requestTelegram (head 0 0) 5 []).dst = 0x01 := by
  and_intros <;> decide +kernel

theorem witness_IdentifyAndStatusReport :
    linked.TakesRequests ∧
    ([] : List Byte).length ≤ 60 ∧
    ([1] : List Byte) ≠ [] ∧
    1 < (head 0 2).index.toNat ∧
    (head 0 1).index.toNat ≤ 1 ∧
    (head 0 0).index = 0 ∧
    (head 0 1).index = 1 := by
  and_intros <;> decide +kernel

theorem witness_ReadTableCarriesEntries :
    linked.TakesRequests ∧
    (head 7 0).table.toNat ∉ [1, 2, 3, 4, 5, 6, 8, 9, 10, 11, 12, 16, 17, 18, 19, 20] ∧
    (head 10 256).table.toNat = 10 ∧
    (head 10 256).index.toNat ≤ 256 ∧
    256 < (head 10 257).index.toNat ∧
    8 < (head 11 9).index.toNat ∧
    (head 11 8).index = 8 ∧
    (∀ c : Byte, ([0] : List Byte) = [c] → c = 0) ∧
    (255 : Byte) ≠ 0 ∧
    tableOf (head 11 8).table = some .counterControl := by
  and_intros <;> decide +kernel

theorem witness_ViewsShowTheState :
    ((guarded .hold 4).unit 0).holdQueue.length ≤ 4 ∧
    ((guarded .hold 4).unit 0).holdQueue[3]? = some { telegram := note, cls := 0, port := .plant } ∧
    ({ planned with orders := [queued] } : State).orders[0]? = some queued ∧
    planned.orders[15]? = none ∧
    ((moving going).unit 0).transition = some going ∧
    (resting.unit 0).transition = none ∧
    (State.reset.waterway 1).silenceDeadline = none ∧
    ({ going with cut := some { origin := .dispatch, tag := 9 } } : Transition).cut = some { origin := .dispatch, tag := 9 } ∧
    ({ planned with converterWait := waiting } : State).converterWait[1]? ≠ none ∧
    ((planned.updWaterway 0 fun y => { y with wait := waiting }).waterway 0).wait[1]? ≠ none ∧
    (State.reset.waterway 0).silenceDeadline = some 5000 := by
  and_intros <;> decide +kernel

theorem witness_WriteTableReplacesOneEntry :
    planned.TakesRequests ∧
    (head 16 0).table.toNat ∉ [1, 2, 3, 4, 5, 6, 8, 9, 10, 11, 12] ∧
    1 ≤ (head 1 0).table.toNat ∧
    (head 6 0).table.toNat ≤ 6 ∧
    planned.dispatcher ≠ .unplanned ∧
    (11, 8) ∈ [(1, 11), (2, 32), (3, 128), (4, 12), (5, 4), (6, 16), (8, 24), (9, 16), (10, 256), (11, 8), (12, 32)] ∧
    8 ≤ (head 11 8).index.toNat ∧
    256 ≤ (head 10 256).index.toNat ∧
    ({ planned with dispatcher := .unplanned } : State).TakesRequests ∧
    ({ planned with dispatcher := .unplanned } : State).dispatcher = .unplanned ∧
    (parseUnitEntry ([1, 0, 50] ++ List.replicate 13 0)).isSome ∧
    ([1, 0, 50] ++ List.replicate 13 0 : List Byte) = unitEntryBytes { waterway := 1, unitSilence := 50 } ∧
    parseUnitEntry [] = none ∧
    (parseWaterwayEntry ([0, 60, 0, 50] ++ List.replicate 12 0)).isSome ∧
    ([0, 60, 0, 50] ++ List.replicate 12 0 : List Byte) = waterwayEntryBytes ⟨60, 50⟩ ∧
    parseWaterwayEntry [] = none ∧
    (parseRoute [1, 0, 1, 0xFF, 127, 8]).isSome ∧
    parseRoute [1, 0, 1, 0xFF, 127, 9] = none ∧
    (parsePhase (phaseBytes Phase.powerOn)).isSome ∧
    parsePhase [] = none ∧
    (parseRecognition (recognitionBytes Recognition.powerOn)).isSome ∧
    parseRecognition [] = none ∧
    (parsePool [0xFF, 3]).isSome ∧
    parsePool [0xFF, 4] = none ∧
    (parseReserve [0x1F, 0xFF, 0x0F, 0xA0]).isSome ∧
    parseReserve [0x20, 0xFF, 0, 0] = none ∧
    (parseMatch (matchBytes MatchEntry.powerOn)).isSome ∧
    parseMatch [] = none ∧
    (parseGuard [0, 1, 2, 0, 1, 2, 0]).isSome ∧
    parseGuard [3, 0, 0, 0, 0, 0, 0] = none ∧
    (parseRow (rowBytes Row.powerOn)).isSome ∧
    parseRow [] = none ∧
    (head 12 31).index.toNat = (7 : UnitNo).val * 4 + (3 : CounterNo).val ∧
    ([0, 0, 0, 1] : List Byte) = wordBytes 1 ∧
    ([1] : List Byte).length ≠ 4 ∧
    (head 11 7).index.toNat = (7 : UnitNo).val ∧
    (head 11 7).table = 11 ∧
    (head 11 7).index.toNat ≤ 7 ∧
    ([16, 0, 0, 0, 0, 0, 0] : List Byte).length = 7 ∧
    15 < (([16, 0, 0, 0, 0, 0, 0] : List Byte).getD 0 0).toNat ∧
    15 < (([0, 0, 0, 16, 0, 0, 0] : List Byte).getD 3 0).toNat ∧
    1 < (([0, 0, 0, 0, 0, 0, 2] : List Byte).getD 6 0).toNat := by
  and_intros <;> decide +kernel

theorem witness_StationWriteMovesUnitsAndWaterways :
    ({ planned with dispatcher := .unplanned } : State).TakesRequests ∧
    ({ planned with dispatcher := .unplanned } : State).dispatcher = .unplanned ∧
    (head 1 0).table = 1 ∧
    (head 1 0).index = 0 ∧
    parseStation [] = none ∧
    parseStation (stationBytes Station.powerOn) = some Station.powerOn ∧
    (∀ u : UnitNo, ({ planned with dispatcher := .unplanned } : State).plan.station.unitCount.toNat ≤ u.val →
      u.val < Station.powerOn.unitCount.toNat →
      ({ planned with dispatcher := .unplanned } : State).lines.trip.getLsbD u.val = false) := by
  and_intros <;> decide +kernel

theorem witness_WrittenEntriesReadBack :
    (parseStation (stationBytes Station.powerOn)).isSome ∧
    (parseRoute [1, 0, 1, 0xFF, 127, 8]).isSome ∧
    (parseRow (rowBytes Row.powerOn)).isSome ∧
    (parseUnitEntry ([1, 0, 50] ++ List.replicate 13 9)).isSome ∧
    (parseWaterwayEntry ([0, 60, 0, 50] ++ List.replicate 12 9)).isSome ∧
    (parseMatch (matchBytes MatchEntry.powerOn)).isSome ∧
    (parsePhase (phaseBytes Phase.powerOn)).isSome ∧
    (parseRecognition (recognitionBytes Recognition.powerOn)).isSome ∧
    (parsePool [0xFF, 3]).isSome ∧
    (parseReserve [0x1F, 0xFF, 0x0F, 0xA0]).isSome ∧
    (parseGuard [0, 1, 2, 0, 1, 2, 0]).isSome ∧
    1 ≤ Route.powerOn.phaseCount ∧
    Route.powerOn.phaseCount ≤ 8 ∧
    Phase.powerOn.retries ≤ 3 ∧
    claimA.setpoint.toNat ≤ 4000 ∧
    (parseStation ((stationBytes Station.powerOn).take 15 ++ [9])) = some Station.powerOn ∧
    (parseControl [15, 0, 0, 0, 15, 15, 1]).isSome ∧
    (parseControl [16, 0, 0, 0, 0, 0, 0]).isSome = false ∧
    (parseValue [0, 0, 0, 1]).isSome ∧
    (parseMatch ((matchBytes MatchEntry.powerOn).set 12 0)).isSome = false ∧
    (parseRow ((rowBytes Row.powerOn).set 0 241)).isSome = false := by
  and_intros <;> decide +kernel

/-- Pool 0 names a unit that is not in service. -/
def badPlan : State := { linked with plan := { plan with pools := plan.pools.set 0 ⟨0x40, 0⟩ } }

theorem witness_CommitChecksThePlan :
    ({ planned with dispatcher := .unplanned } : State).commitWalk = none ∧
    (linked.commitWalk).isSome = false ∧
    ({ planned with dispatcher := .unplanned } : State).TakesRequests ∧
    planned.dispatcher ≠ .unplanned ∧
    ({ planned with dispatcher := .unplanned } : State).dispatcher = .unplanned ∧
    badPlan.commitWalk = some (5, 0) ∧
    ({ badPlan with plan := { badPlan.plan with station := { plan.station with abortCommand := 0 } } } : State).commitWalk =
      some (1, 0) := by
  and_intros <;> decide +kernel

theorem witness_UncommitAndPurgeWithdrawOrders :
    resting.TakesRequests ∧
    linked.dispatcher = .unplanned ∧
    resting.dispatcher = .directed ∧
    resting.orders = [] ∧
    (∀ u, (resting.unit u).transition = none ∧ (resting.unit u).reserveClaim = none) ∧
    (∃ u, ((moving going).unit u).transition ≠ none ∨ ((moving going).unit u).reserveClaim ≠ none) ∧
    resting.orders.filter (fun o => decide (o.origin = .dispatch ∧ o.tag = 9)) = [] ∧
    ({ planned with orders := [pooled] } : State).orders.filter (fun o => decide (o.origin = .dispatch ∧
      o.tag = 9)) = [pooled] ∧
    pooled.target = .pool 3 ∧
    ({ resting with dispatcher := .draining } : State).dispatcher = .draining := by
  and_intros <;> decide +kernel

theorem witness_SetOutAndForceModeWriteTheUnit :
    resting.TakesRequests ∧
    resting.DispatcherStateSound ∧
    (heldOut true false).DispatcherStateSound ∧
    (moving going).DispatcherStateSound ∧
    planned.DispatcherStateSound ∧
    8 ≤ (head 0 8).index.toNat ∧
    resting.plan.station.unitCount.toNat ≤ (head 0 6).index.toNat ∧
    (5 : UnitNo).val = (head 0 5).index.toNat ∧
    (5 : UnitNo).val < resting.plan.station.unitCount.toNat ∧
    (∀ b : Byte, ([2] : List Byte) = [b] → 1 < b.toNat) ∧
    ((moving going).unit 0).transition ≠ none ∧
    ((heldOut true false).unit 0).outInput = true ∧
    ((heldOut true false).unit 0).transition = none ∧
    (resting.unit 0).outInput = false ∧
    (resting.unit 0).configuredOut = false ∧
    ((heldOut false true).unit 0).configuredOut = true ∧
    ((heldOut false true).unit 0).outInput = false ∧
    (∀ b : Byte, ([5] : List Byte) = [b] → 4 < b.toNat) ∧
    ([4] : List Byte) = [modeCode .scp] ∧
    (resting.unit 0).mode ≠ .unknown ∧
    (planned.unit 0).mode = .unknown ∧
    planned.orders = [] ∧
    (planned.unit 0).reserveClaim = none ∧
    (burdened resting).TakesRequests ∧
    ((burdened resting).unit 0).transition = none ∧
    ((burdened resting).unit 0).outInput = false ∧
    ((burdened resting).unit 0).configuredOut = false ∧
    (0 : UnitNo).val = (head 0 0).index.toNat ∧
    ((burdened planned).unit 0).mode = .unknown := by
  and_intros <;> decide +kernel

theorem witness_ProgramRequestsSetTheRun :
    resting.TakesRequests ∧
    ([1] : List Byte).length ≠ 4 ∧
    ([255, 1, 0, 1] : List Byte) = [255, hiByte 256, loByte 256, 1] ∧
    linked.dispatcher = .unplanned ∧
    ({ moving going with dispatcher := .draining } : State).dispatcher = .draining ∧
    resting.dispatcher = .directed ∧
    ({ resting with dispatcher := .autonomous } : State).dispatcher = .autonomous ∧
    1 ≤ (256 : Half).toNat ∧
    (256 : Half).toNat ≤ 256 ∧
    (1 : Byte).toNat ≤ 1 ∧
    ¬ 1 ≤ (0 : Half).toNat ∧
    ¬ (257 : Half).toNat ≤ 256 ∧
    resting.program.running = false ∧
    (lastRowDue true).program.running = true := by
  and_intros <;> decide +kernel

theorem witness_CounterRequestsAct :
    linked.TakesRequests ∧
    32 ≤ (head 0 32).index.toNat ∧
    (head 0 31).index.toNat < 32 ∧
    ([1] : List Byte).length ≠ 4 ∧
    (head 0 31).index.toNat = (7 : UnitNo).val * 4 + (3 : CounterNo).val ∧
    ([0, 0, 0, 1] : List Byte) = wordBytes 1 ∧
    8 ≤ (head 0 8).index.toNat ∧
    (head 0 8).index ≠ 0x00FF ∧
    (7 : UnitNo).val = (head 0 7).index.toNat ∧
    (head 0 0xFF).index = 0x00FF ∧
    1 < (head 0 2).index.toNat ∧
    (head 0 1).index = 1 ∧
    (head 0 0).index = 0 := by
  and_intros <;> decide +kernel

theorem witness_ResetWaitsForItsAnswer :
    (filled 15 0).TakesRequests ∧
    (filled 15 0).plantPort.originated.length < 16 ∧
    (filled 16 0).TakesRequests ∧
    16 ≤ (filled 16 0).plantPort.originated.length ∧
    ([1] : List Byte) ≠ [] := by
  and_intros <;> decide +kernel

theorem witness_EventsLeaveTheRest :
    (moving going).TakesRequests ∧
    (head 0 0).index.toNat = (0 : UnitNo).val ∧
    (∀ v, (moving going).unitAt 0x10 = some v → v = 0) ∧
    (ran (.unitReport 0x02 0x10 0 0 (reportOf 1)) (moving going)).isSome = true ∧
    (ran (.tripLineAsserted 0) (moving going)).isSome = true ∧
    (ran (.setOut (head 0 0) [1]) (moving going)).isSome = true ∧
    (moving going).resetPending = false ∧
    (ran (.assertionEvent .a) (moving going)).isSome = true ∧
    (ran (.dispatchOrder 0x02 0 7 [0, 0, 1, 1, 0xF4, 0, 0]) resting).isSome = true ∧
    (ran (.uncommit (head 0 0) []) resting).isSome = true := by
  and_intros <;> decide +kernel

theorem witness_InvariantsAndLock :
    (moving going).PortsBounded ∧
    (moving going).OrderQueueSound ∧
    (moving going).HoldQueuesSound ∧
    (moving going).DispatcherStateSound ∧
    (filled 16 32).PortsBounded ∧
    (guarded .hold 4).HoldQueuesSound ∧
    (moving going).dispatcher ≠ .unplanned ∧
    ((match step (moving going) with
      | .next t => t.dispatcher | .fault _ => .unplanned | .refused _ => .unplanned) ≠ .unplanned) := by
  and_intros <;> decide +kernel

end Sys2Proof.Tests
end

section
/-!
PROOFS. Chapter 3: what route lookup and selection choose (R26, R51, R52).
-/

namespace Sys2Proof.Machine

theorem mem_unitNumbers (u : UnitNo) : u ∈ unitNumbers := by
  revert u
  decide

theorem unitNumbers_ascending : unitNumbers.Pairwise (· < ·) := by decide

namespace State

variable {s : State}

/-! ## Route lookup (R26) -/

/-- Route r is enabled, leads from m to n, and serves unit u (R26). -/
abbrev RouteFits (s : State) (u : UnitNo) (m n : Mode) (r : Fin 32) : Prop :=
  s.plan.routes[r.val].enabled = true ∧ s.plan.routes[r.val].fromMode = m ∧ s.plan.routes[r.val].toMode = n ∧
    s.plan.routes[r.val].units.getLsbD u.val = true

theorem lookupRoute_eq_find (u : UnitNo) (m n : Mode) :
    s.lookupRoute u m n = Fin.find? fun r => decide (s.RouteFits u m n r) := by
  rw [Fin.find?_eq_find?_finRange]
  unfold lookupRoute
  congr 1
  funext r
  simp [RouteFits, hasUnit, Bool.and_assoc]

theorem lookupRoute_eq_some_iff {u : UnitNo} {m n : Mode} {r : Fin 32} :
    s.lookupRoute u m n = some r ↔ s.RouteFits u m n r ∧ ∀ q, q < r → ¬ s.RouteFits u m n q := by
  simp only [lookupRoute_eq_find, Fin.find?_eq_some_iff, decide_eq_true_eq, decide_eq_false_iff_not]

theorem lookupRoute_eq_none_iff {u : UnitNo} {m n : Mode} :
    s.lookupRoute u m n = none ↔ ∀ r, ¬ s.RouteFits u m n r := by
  simp only [lookupRoute_eq_find, Fin.find?_eq_none_iff, decide_eq_false_iff_not]

/-! ## Eligibility (R51) -/

/-- Unit u meets every condition of R51 for an order of pool p asking mode n. -/
def PoolEligible (s : State) (p : Fin 4) (n : Mode) (u : UnitNo) : Prop :=
  s.plan.pools[p.val].members.getLsbD u.val = true ∧ u.val < s.plan.station.unitCount.toNat ∧
    (s.unit u).silent = false ∧ (s.unit u).transition = none ∧ (s.unit u).reserveClaim = none ∧
    (∀ q ∈ s.orders, q.target ≠ .unit u) ∧
    ∃ m, (s.unit u).mode = .settled m ∧ m ≠ n ∧ s.lookupRoute u m n ≠ none

/-- Only a settled mode makes a unit available, so the other modes fail both sides (R3, R51). -/
theorem eligible_iff {p : Fin 4} {n : Mode} {u : UnitNo} : s.eligible p n u = true ↔ s.PoolEligible p n u := by
  unfold eligible PoolEligible
  cases hm : (s.unit u).mode with
  | settled m =>
    simp only [UnitRecord.available, hm, hasUnit, unitInService, Order.isFor, Bool.and_eq_true, Bool.not_eq_true',
      decide_eq_true_eq, Option.isNone_iff_eq_none, Option.isSome_iff_ne_none, List.any_eq_false,
      UnitMode.settled.injEq, exists_eq_left', ne_eq]
    tauto
  | tripped => simp [hm]
  | out => simp [hm]
  | unknown => simp [hm]

/-! ## Selection (R52) -/

/-- Unit u of `us` has the lowest counter n, and the lowest number among those with an equal counter (R52). -/
def IsLowest (s : State) (n : CounterNo) (us : List UnitNo) (u : UnitNo) : Prop :=
  u ∈ us ∧ ∀ v ∈ us, (s.counterValue u n).toNat ≤ (s.counterValue v n).toNat ∧
    ((s.counterValue v n).toNat = (s.counterValue u n).toNat → u ≤ v)

theorem IsLowest.unique {n : CounterNo} {us : List UnitNo} {u v : UnitNo} (hu : s.IsLowest n us u)
    (hv : s.IsLowest n us v) : u = v := by
  obtain ⟨huv, hle⟩ := hu.2 v hv.1
  obtain ⟨hvu, hge⟩ := hv.2 u hu.1
  exact le_antisymm (hle (le_antisymm hvu huv)) (hge (le_antisymm huv hvu))

theorem lowestCounter_eq_none_iff {n : CounterNo} {us : List UnitNo} : s.lowestCounter n us = none ↔ us = [] := by
  cases us with
  | nil => simp [lowestCounter]
  | cons u us =>
    simp only [lowestCounter, reduceCtorEq, iff_false]
    split
    · simp
    · split <;> simp

/-- In a list in unit order the tail's unit is taken only with a strictly lower counter, so the lowest number wins a
tie. -/
theorem isLowest_of_lowestCounter {n : CounterNo} {us : List UnitNo} {u : UnitNo} (hs : us.Pairwise (· < ·))
    (h : s.lowestCounter n us = some u) : s.IsLowest n us u := by
  induction us generalizing u with
  | nil => simp [lowestCounter] at h
  | cons w us ih =>
    obtain ⟨hw, hus⟩ := List.pairwise_cons.mp hs
    cases ht : s.lowestCounter n us with
    | none =>
      obtain rfl := lowestCounter_eq_none_iff.mp ht
      obtain rfl : w = u := by simpa [lowestCounter] using h
      simp [IsLowest]
    | some v =>
      obtain ⟨hv, hle⟩ := ih hus ht
      simp only [lowestCounter, ht] at h
      split at h
      · -- the tail's unit v is strictly lower than w
        obtain rfl : v = u := by simpa using h
        refine ⟨List.mem_cons_of_mem _ hv, List.forall_mem_cons.mpr ⟨?_, hle⟩⟩
        omega
      · -- w is at most v, and before every unit of the tail
        obtain rfl : w = u := by simpa using h
        refine ⟨List.mem_cons_self, List.forall_mem_cons.mpr ⟨⟨le_rfl, fun _ => le_rfl⟩, fun x hx => ?_⟩⟩
        exact ⟨by have := (hle x hx).1; omega, fun _ => (hw x hx).le⟩

theorem lowestCounter_eq_some_iff {n : CounterNo} {us : List UnitNo} {u : UnitNo} (hs : us.Pairwise (· < ·)) :
    s.lowestCounter n us = some u ↔ s.IsLowest n us u := by
  refine ⟨isLowest_of_lowestCounter hs, fun hu => ?_⟩
  cases hl : s.lowestCounter n us with
  | none => simp [lowestCounter_eq_none_iff.mp hl, IsLowest] at hu
  | some v => rw [hu.unique (isLowest_of_lowestCounter hs hl)]

theorem mem_eligible_units {p : Fin 4} {n : Mode} {u : UnitNo} :
    u ∈ unitNumbers.filter (s.eligible p n) ↔ s.PoolEligible p n u := by
  simp [mem_unitNumbers, eligible_iff]

theorem selectUnit_pool {o : Order} {p : Fin 4} (hp : o.target = .pool p) :
    s.selectUnit o =
      s.lowestCounter s.plan.pools[p.val].selectCounter (unitNumbers.filter (s.eligible p o.mode)) := by
  simp [selectUnit, hp]

theorem selectUnit_eq_some_iff {o : Order} {p : Fin 4} (hp : o.target = .pool p) {u : UnitNo} :
    s.selectUnit o = some u ↔
      s.IsLowest s.plan.pools[p.val].selectCounter (unitNumbers.filter (s.eligible p o.mode)) u := by
  rw [selectUnit_pool hp, lowestCounter_eq_some_iff (unitNumbers_ascending.filter _)]

theorem selectUnit_eq_none_iff {o : Order} {p : Fin 4} (hp : o.target = .pool p) :
    s.selectUnit o = none ↔ ∀ u, ¬ s.PoolEligible p o.mode u := by
  rw [selectUnit_pool hp, lowestCounter_eq_none_iff, List.eq_nil_iff_forall_not_mem]
  simp only [mem_eligible_units]

end State

/-- Settles O23: the lookup is the first fitting index, and selection the lowest of the eligible units in unit order. -/
theorem lookupAndSelectionTakeTheLowest : Obligations.LookupAndSelectionTakeTheLowest := by
  unfold Obligations.LookupAndSelectionTakeTheLowest
  refine ⟨fun s u m n => ⟨fun r => State.lookupRoute_eq_some_iff, State.lookupRoute_eq_none_iff⟩,
    fun s o p hp => ⟨fun u => ?_, State.selectUnit_eq_none_iff hp⟩⟩
  rw [State.selectUnit_eq_some_iff hp]
  unfold State.IsLowest
  simp only [State.mem_eligible_units]
  rfl

end Sys2Proof.Machine
end

section
/-!
PROOFS. Chapter 3: the arrival checks of a dispatch order, each with the reason it refuses with (R43 to R46, R61).
-/

namespace Sys2Proof

theorem half_toNat (hi lo : Byte) : (half hi lo).toNat = hi.toNat * 256 + lo.toNat := by
  rw [half, BitVec.toNat_append, ← Nat.shiftLeft_add_eq_or_of_lt lo.isLt, Nat.shiftLeft_eq]

namespace Machine

/-! ## Codes -/

theorem modeOf_eq_none {b : Byte} (h : 4 < b.toNat) : modeOf b = none := by
  unfold modeOf
  repeat rw [if_neg (by rintro rfl; simp at h)]

/-- A byte within the codes of the settled modes is the code of one. -/
theorem exists_modeOf {b : Byte} (h : b.toNat ≤ 4) : ∃ m, modeOf b = some m ∧ modeCode m = b := by
  obtain ⟨k, hk, rfl⟩ : ∃ k, k < 5 ∧ b = BitVec.ofNat 8 k := ⟨b.toNat, by omega, by simp⟩
  interval_cases k
  · exact ⟨.st, rfl, rfl⟩
  · exact ⟨.gen, rfl, rfl⟩
  · exact ⟨.pmp, rfl, rfl⟩
  · exact ⟨.scg, rfl, rfl⟩
  · exact ⟨.scp, rfl, rfl⟩

theorem unitByte_of_val_eq {u : UnitNo} {b : Byte} (h : u.val = b.toNat) : unitByte u = b := by
  simp [unitByte, natByte, h]

/-! ## Check 1 (R43) -/

/-- A payload of another length, target type or setpoint than section 9.7 gives is not read. -/
theorem parseOrder_malformed {payload : List Byte}
    (h : payload.length ≠ 7 ∨ 1 < (payload.getD 0 0).toNat ∨
      4000 < (payload.getD 3 0).toNat * 256 + (payload.getD 4 0).toNat) : parseOrder payload = none := by
  unfold parseOrder
  split
  next tt t m s1 s0 v1 v0 =>
    have hbad : ¬ ((tt = 0 ∨ tt = 1) ∧ (half s1 s0).toNat ≤ 4000) := by
      rintro ⟨htt, hsp⟩
      have htt : tt.toNat ≤ 1 := by rcases htt with rfl | rfl <;> decide
      rw [half_toNat] at hsp
      have h : 1 < tt.toNat ∨ 4000 < s1.toNat * 256 + s0.toNat := by simpa using h
      omega
    simpa [within, setpointOk] using hbad
  next => rfl

namespace State

variable {s : State}

/-! ## What the arrival of a good telegram leaves -/

@[simp] theorem heard_dispatcher (p : PortName) (src : Byte) : (s.heard p src).dispatcher = s.dispatcher := by
  unfold heard
  dsimp only
  split <;> simp

@[simp] theorem heard_plan (p : PortName) (src : Byte) : (s.heard p src).plan = s.plan := by
  unfold heard
  dsimp only
  split <;> simp

@[simp] theorem heard_units (p : PortName) (src : Byte) : (s.heard p src).units = s.units := by
  unfold heard
  dsimp only
  split <;> simp

@[simp] theorem heard_orders (p : PortName) (src : Byte) : (s.heard p src).orders = s.orders := by
  unfold heard
  dsimp only
  split <;> simp

@[simp] theorem unit_heard (p : PortName) (src : Byte) (u : UnitNo) : (s.heard p src).unit u = s.unit u := by
  simp [unit]

@[simp] theorem whollyUnavailable_heard (p : PortName) (src : Byte) (t : Target) :
    (s.heard p src).whollyUnavailable t = s.whollyUnavailable t := by
  cases t <;> simp [whollyUnavailable, outOrTripped, List.all_eq]

/-! ## Checks 1 and 2 (R43, R44) -/

theorem takeOrder_malformed {tag : Half} {payload : List Byte} (hp : parseOrder payload = none) :
    s.takeOrder tag payload = s.sendStatus tag .refused .malformed 0xFF 0xFF .dispatch := by
  simp [takeOrder, hp]

theorem takeOrder_unplanned {tag : Half} {payload : List Byte} {o : OrderFields} (hp : parseOrder payload = some o)
    (hd : s.dispatcher = .unplanned) :
    s.takeOrder tag payload = s.sendStatus tag .refused .notPlanned o.unitByte o.mode .dispatch := by
  simp [takeOrder, hp, hd, refuseFields]

theorem takeOrder_draining {tag : Half} {payload : List Byte} {o : OrderFields} (hp : parseOrder payload = some o)
    (hd : s.dispatcher = .draining) :
    s.takeOrder tag payload = s.sendStatus tag .refused .draining o.unitByte o.mode .dispatch := by
  simp [takeOrder, hp, hd, refuseFields]

theorem takeOrder_directed {tag : Half} {payload : List Byte} {o : OrderFields} (hp : parseOrder payload = some o)
    (hd : s.dispatcher = .directed) : s.takeOrder tag payload = s.judgeOrder tag o := by
  simp [takeOrder, hp, hd]

/-! ## Check 3 (R45) -/

theorem orderTarget_noUnit {o : OrderFields} (hty : o.targetType = 0)
    (h : 8 ≤ o.target.toNat ∨ s.plan.station.unitCount.toNat ≤ o.target.toNat) : s.orderTarget o = none := by
  unfold orderTarget
  rw [if_pos hty]
  split
  next h8 => exact if_neg (by simp only [unitInService, decide_eq_true_eq]; omega)
  next => rfl

theorem orderTarget_unit {o : OrderFields} {u : UnitNo} (hty : o.targetType = 0) (hu : u.val = o.target.toNat)
    (hin : u.val < s.plan.station.unitCount.toNat) : s.orderTarget o = some (.unit u) := by
  have h8 : o.target.toNat < 8 := hu ▸ u.isLt
  obtain rfl : u = ⟨o.target.toNat, h8⟩ := Fin.ext hu
  simp [orderTarget, hty, h8, unitInService, hin]

theorem orderTarget_noPool {o : OrderFields} (hty : o.targetType = 1) (h : 4 ≤ o.target.toNat) :
    s.orderTarget o = none := by
  simp [orderTarget, hty, h]

theorem orderTarget_pool {o : OrderFields} {p : Fin 4} (hty : o.targetType = 1) (hp : p.val = o.target.toNat) :
    s.orderTarget o = if s.plan.pools[p.val].members = 0 then none else some (.pool p) := by
  have h4 : o.target.toNat < 4 := hp ▸ p.isLt
  obtain rfl : p = ⟨o.target.toNat, h4⟩ := Fin.ext hp
  simp [orderTarget, hty, h4]

/-- UNIT of a refusal past check 3 is the one that a refusal before it carries (R61). -/
theorem targetUnitByte_orderTarget {o : OrderFields} {t : Target} (h : s.orderTarget o = some t) :
    targetUnitByte t = o.unitByte := by
  unfold orderTarget at h
  unfold OrderFields.unitByte
  split at h
  next hty =>
    rw [if_pos hty]
    split at h
    next h8 =>
      split at h
      next =>
        obtain rfl : Target.unit ⟨o.target.toNat, h8⟩ = t := by simpa using h
        exact unitByte_of_val_eq rfl
      next => cases h
    next => cases h
  next hty =>
    rw [if_neg hty]
    split at h
    next h4 =>
      split at h
      next => cases h
      next =>
        obtain rfl : Target.pool ⟨o.target.toNat, h4⟩ = t := by simpa using h
        rfl
    next => cases h

/-! ## Checks 5 to 8 (R45, R46) -/

theorem outOrTripped_iff {u : UnitNo} :
    s.outOrTripped u = true ↔ (s.unit u).mode = .out ∨ (s.unit u).mode = .tripped := by
  simp [outOrTripped]

theorem whollyUnavailable_unit_iff {u : UnitNo} :
    s.whollyUnavailable (.unit u) = true ↔ (s.unit u).mode = .out ∨ (s.unit u).mode = .tripped := outOrTripped_iff

theorem whollyUnavailable_pool_iff {p : Fin 4} :
    s.whollyUnavailable (.pool p) = true ↔ ∀ u : UnitNo, s.plan.pools[p.val].members.getLsbD u.val = true →
      (s.unit u).mode = .out ∨ (s.unit u).mode = .tripped := by
  simp [whollyUnavailable, List.all_eq_true, mem_unitNumbers, hasUnit, outOrTripped_iff, or_iff_not_imp_left]

theorem not_whollyUnavailable_unit {u : UnitNo} (ho : (s.unit u).mode ≠ .out) (ht : (s.unit u).mode ≠ .tripped) :
    s.whollyUnavailable (.unit u) ≠ true := by
  simp [whollyUnavailable_unit_iff, ho, ht]

theorem not_whollyUnavailable_pool {p : Fin 4} {u : UnitNo}
    (hu : s.plan.pools[p.val].members.getLsbD u.val = true) (ho : (s.unit u).mode ≠ .out)
    (ht : (s.unit u).mode ≠ .tripped) : s.whollyUnavailable (.pool p) ≠ true := fun h =>
  (whollyUnavailable_pool_iff.mp h u hu).elim ho ht

theorem outranked_of_reserveClaim {u : UnitNo} {o : Origin} (h : (s.unit u).reserveClaim ≠ none) :
    s.outranked o (.unit u) = true := by
  simp [outranked, Option.isSome_iff_ne_none.mpr h]

/-- Without a claim that waits for the unit check 6 passes. -/
theorem outranked_eq_false {u : UnitNo} {o : Origin} (hr : (s.unit u).reserveClaim = none)
    (ho : ∀ q ∈ s.orders, q.target ≠ .unit u) : s.outranked o (.unit u) = false := by
  simp only [outranked, hr, Option.isSome_none, Bool.false_or, List.any_eq_false, Order.isFor, Bool.and_eq_true,
    decide_eq_true_eq]
  exact fun q hq hfor => ho q hq hfor.1

/-- Without a queued order for the unit check 7 changes nothing. -/
theorem supersedeQueued_of_none {u : UnitNo} (ho : ∀ q ∈ s.orders, q.target ≠ .unit u) :
    s.supersedeQueued u = s := by
  have hfor : ∀ q ∈ s.orders, q.isFor u = false := fun q hq => by simpa [Order.isFor] using ho q hq
  have hgone : s.orders.filter (fun q => q.isFor u) = [] := by simpa using hfor
  have hkept : s.orders.filter (fun q => !q.isFor u) = s.orders := by simpa using hfor
  simp [supersedeQueued, hgone, hkept]

theorem queueOrder_whollyUnavailable {a : Arrival} (h : s.whollyUnavailable a.target = true) :
    s.queueOrder a = s.refuseArrival a .unitUnavailable := by
  simp [queueOrder, h]

theorem queueOrder_outranked {a : Arrival} (hw : s.whollyUnavailable a.target ≠ true)
    (h : s.outranked a.claim.origin a.target = true) : s.queueOrder a = s.refuseArrival a .outranked := by
  simp [queueOrder, hw, h]

/-- An arrival that supersedes nothing meets the queue as it stands at check 8. -/
theorem queueOrder_queueFull {a : Arrival} (hw : s.whollyUnavailable a.target ≠ true)
    (hr : s.outranked a.claim.origin a.target = false) (hs : s.supersedeFor a.target = s)
    (hl : 16 ≤ s.orders.length) : s.queueOrder a = s.refuseArrival a .queueFull := by
  simp [queueOrder, hw, hr, hs, hl]

/-! ## A dispatch order through checks 3 to 8 -/

theorem judgeOrder_noTarget {tag : Half} {o : OrderFields} (h : s.orderTarget o = none) :
    s.judgeOrder tag o = s.sendStatus tag .refused (noTargetReason o) o.unitByte o.mode .dispatch := by
  simp [judgeOrder, h, refuseFields]

/-- Check 4 (R45). -/
theorem judgeOrder_badMode {tag : Half} {o : OrderFields} {t : Target} (ht : s.orderTarget o = some t)
    (hm : 4 < o.mode.toNat) :
    s.judgeOrder tag o = s.sendStatus tag .refused .badMode o.unitByte o.mode .dispatch := by
  simp [judgeOrder, ht, modeOf_eq_none hm, refuseFields]

/-- A refusal at checks 5 to 8 carries UNIT and MODE as received (R61). -/
theorem judgeOrder_refused {tag : Half} {o : OrderFields} {t : Target} {r : Reason} (ht : s.orderTarget o = some t)
    (hm : o.mode.toNat ≤ 4)
    (hq : ∀ a : Arrival, a.target = t → a.claim.origin = .dispatch → s.queueOrder a = s.refuseArrival a r) :
    s.judgeOrder tag o = s.sendStatus tag .refused r o.unitByte o.mode .dispatch := by
  obtain ⟨m, hmo, hmc⟩ := exists_modeOf hm
  simp only [judgeOrder, ht, hmo]
  rw [hq _ rfl rfl, refuseArrival, targetUnitByte_orderTarget ht, hmc]

theorem judgeOrder_unitUnavailable {tag : Half} {o : OrderFields} {t : Target} (ht : s.orderTarget o = some t)
    (hm : o.mode.toNat ≤ 4) (hw : s.whollyUnavailable t = true) :
    s.judgeOrder tag o = s.sendStatus tag .refused .unitUnavailable o.unitByte o.mode .dispatch :=
  judgeOrder_refused ht hm fun _ hat _ => queueOrder_whollyUnavailable (hat ▸ hw)

theorem judgeOrder_outranked {tag : Half} {o : OrderFields} {t : Target} (ht : s.orderTarget o = some t)
    (hm : o.mode.toNat ≤ 4) (hw : s.whollyUnavailable t ≠ true) (hr : s.outranked .dispatch t = true) :
    s.judgeOrder tag o = s.sendStatus tag .refused .outranked o.unitByte o.mode .dispatch :=
  judgeOrder_refused ht hm fun _ hat hao => queueOrder_outranked (hat ▸ hw) (hat ▸ hao ▸ hr)

theorem judgeOrder_queueFull {tag : Half} {o : OrderFields} {t : Target} (ht : s.orderTarget o = some t)
    (hm : o.mode.toNat ≤ 4) (hw : s.whollyUnavailable t ≠ true) (hr : s.outranked .dispatch t = false)
    (hs : s.supersedeFor t = s) (hl : 16 ≤ s.orders.length) :
    s.judgeOrder tag o = s.sendStatus tag .refused .queueFull o.unitByte o.mode .dispatch :=
  judgeOrder_refused ht hm fun _ hat hao => queueOrder_queueFull (hat ▸ hw) (hat ▸ hao ▸ hr) (hat ▸ hs) hl

end State

/-! ## The command -/

section

variable {src tt target mode : Byte} {ident tag setpoint validity : Half} {s : State}

/-- A DISPATCH ORDER with a whole payload goes through the arrival checks. -/
theorem exec_orderPayload (hl : s.plantPort.link = true) :
    exec (.dispatchOrder src ident tag (orderPayload tt target mode setpoint validity)) s =
      .next ((s.heard .plant src).takeOrder tag (orderPayload tt target mode setpoint validity)) :=
  exec_dispatchOrder hl (by simp [orderPayload, halfBytes_length])

/-- In DIRECTED an order that passes check 1 goes on to check 3 (R44). -/
theorem exec_orderPayload_directed (hl : s.plantPort.link = true) (hd : s.dispatcher = .directed)
    (ht : tt.toNat ≤ 1) (hs : setpoint.toNat ≤ 4000) :
    exec (.dispatchOrder src ident tag (orderPayload tt target mode setpoint validity)) s =
      .next ((s.heard .plant src).judgeOrder tag
        { targetType := tt, target := target, mode := mode, setpoint := setpoint, validity := validity }) := by
  rw [exec_orderPayload hl, State.takeOrder_directed (parseOrder_orderPayload ht hs) (by simpa using hd)]

end

/-- Settles O24: the checks in their order, each refusing the state that the arrival of the telegram leaves. -/
theorem refusedOrdersAreAnsweredWithTheirReason : Obligations.RefusedOrdersAreAnsweredWithTheirReason := by
  unfold Obligations.RefusedOrdersAreAnsweredWithTheirReason
  refine ⟨fun src ident tag payload s hl hlen hbad => ?_,
    fun src ident tag tt target mode setpoint validity s hl htt hs => ?_,
    fun src ident tag target mode setpoint validity s hl hd hs => ?_⟩
  · rw [exec_dispatchOrder hl hlen, State.takeOrder_malformed (parseOrder_malformed hbad)]
  · have hp := parseOrder_orderPayload (target := target) (mode := mode) (validity := validity) htt hs
    refine ⟨fun hd => ?_, fun hd => ?_⟩
    · rw [exec_orderPayload hl, State.takeOrder_unplanned hp (by simpa using hd)]
      rfl
    · rw [exec_orderPayload hl, State.takeOrder_draining hp (by simpa using hd)]
      rfl
  · extract_lets toUnit toPool refused
    set t := s.heard .plant src with heq
    have hunit : ∀ {r}, t.judgeOrder tag ⟨0, target, mode, setpoint, validity⟩ =
        t.sendStatus tag .refused r target mode .dispatch → exec toUnit s = refused target r := fun h =>
      (exec_orderPayload_directed hl hd (by decide) hs).trans (congrArg Host.Outcome.next h)
    have hpool : ∀ {r}, t.judgeOrder tag ⟨1, target, mode, setpoint, validity⟩ =
        t.sendStatus tag .refused r 0xFF mode .dispatch → exec toPool s = refused 0xFF r := fun h =>
      (exec_orderPayload_directed hl hd (by decide) hs).trans (congrArg Host.Outcome.next h)
    refine ⟨fun h => ?noUnit, fun h => ?noPool, fun p hp => ?pool, fun u hu hin => ?unit⟩
    case noUnit => exact hunit (State.judgeOrder_noTarget (State.orderTarget_noUnit rfl (by simpa [heq] using h)))
    case noPool => exact hpool (State.judgeOrder_noTarget (State.orderTarget_noPool rfl h))
    case pool =>
      have htarget := State.orderTarget_pool (s := t) (o := ⟨1, target, mode, setpoint, validity⟩) rfl hp
      refine ⟨fun hempty => ?_, fun hmembers => ?_⟩
      · rw [if_pos (by simpa [heq] using hempty)] at htarget
        exact hpool (State.judgeOrder_noTarget htarget)
      · rw [if_neg (by simpa [heq] using hmembers)] at htarget
        refine ⟨fun hm => hpool (State.judgeOrder_badMode htarget hm),
          fun hm => ⟨fun hout => ?_, fun ⟨u, hu, ho, htr⟩ hfull => ?_⟩⟩
        · have hw := State.whollyUnavailable_pool_iff.mpr hout
          exact hpool (State.judgeOrder_unitUnavailable htarget hm (by simpa [heq] using hw))
        · have hw := State.not_whollyUnavailable_pool hu ho htr
          exact hpool (State.judgeOrder_queueFull htarget hm (by simpa [heq] using hw) rfl rfl
            (by simpa [heq] using hfull))
    case unit =>
      have htarget : t.orderTarget ⟨0, target, mode, setpoint, validity⟩ = some (.unit u) :=
        State.orderTarget_unit rfl hu (by simpa [heq] using hin)
      refine ⟨fun hm => hunit (State.judgeOrder_badMode htarget hm),
        fun hm => ⟨fun hout => ?_, fun ho htr => ?_⟩⟩
      · have hw := State.whollyUnavailable_unit_iff.mpr hout
        exact hunit (State.judgeOrder_unitUnavailable htarget hm (by simpa [heq] using hw))
      · have hw : t.whollyUnavailable (.unit u) ≠ true := by
          simpa [heq] using State.not_whollyUnavailable_unit ho htr
        refine ⟨fun hclaim => ?_, fun hclaim hothers hfull => ?_⟩
        · have hr : t.outranked .dispatch (.unit u) = true :=
            State.outranked_of_reserveClaim (by simpa [heq] using hclaim)
          exact hunit (State.judgeOrder_outranked htarget hm hw hr)
        · have hnone : ∀ q ∈ t.orders, q.target ≠ .unit u := by simpa [heq] using hothers
          have hr : t.outranked .dispatch (.unit u) = false :=
            State.outranked_eq_false (by simpa [heq] using hclaim) hnone
          exact hunit (State.judgeOrder_queueFull htarget hm hw hr (State.supersedeQueued_of_none hnone)
            (by simpa [heq] using hfull))

end Machine
end Sys2Proof
end

section
/-!
PROOFS. Chapter 5: what a waterway report does to ALARM and the window (R99, R136).
-/

namespace Sys2Proof.Machine

theorem mem_waterwayNumbers (w : WaterwayNo) : w ∈ waterwayNumbers := by
  revert w
  decide

namespace State

variable {s : State} {w : WaterwayNo}

/-! ## What the arrival and the alert leave -/

@[simp] theorem heard_now (p : PortName) (src : Byte) : (s.heard p src).now = s.now := by
  unfold heard
  dsimp only
  split <;> simp

@[simp] theorem waterway_heard (p : PortName) (src : Byte) (v : WaterwayNo) :
    (s.heard p src).waterway v = s.waterway v := by
  unfold heard
  dsimp only
  split
  · exact waterway_updCounters ..
  · simp

@[simp] theorem waterway_sendAlert (k : AlertKind) (subject : Byte) (detail : Half) (v : WaterwayNo) :
    (s.sendAlert k subject detail).waterway v = s.waterway v := waterway_originate ..

/-! ## The waterway at a station address (R136) -/

@[simp] theorem waterwayInService_iff :
    s.waterwayInService w = true ↔ w.val < s.plan.station.waterwayCount.toNat := by
  simp [waterwayInService]

theorem eq_waterwayAddress_iff {addr : Byte} : addr = natByte (0x1A + w.val) ↔ addr.toNat = 0x1A + w.val := by
  rw [← BitVec.toNat_inj, natByte, BitVec.toNat_ofNat, Nat.mod_eq_of_lt (by omega)]

theorem waterwayAt_eq_some {addr : Byte} (ha : addr.toNat = 0x1A + w.val)
    (hw : w.val < s.plan.station.waterwayCount.toNat) : s.waterwayAt addr = some w := by
  have hfound : (s.waterwayAt addr).isSome :=
    List.find?_isSome.mpr ⟨w, mem_waterwayNumbers w, by simp [hw, eq_waterwayAddress_iff.mpr ha]⟩
  obtain ⟨v, hv⟩ := Option.isSome_iff_exists.mp hfound
  have hav : s.waterwayInService v ∧ addr = natByte (0x1A + v.val) := by simpa using List.find?_some hv
  have hval : addr.toNat = 0x1A + v.val := eq_waterwayAddress_iff.mp hav.2
  rw [hv, Fin.ext (by omega : v.val = w.val)]

theorem waterwayAt_eq_none {addr : Byte}
    (h : ∀ v : WaterwayNo, addr.toNat ≠ 0x1A + v.val ∨ s.plan.station.waterwayCount.toNat ≤ v.val) :
    s.waterwayAt addr = none := by
  refine List.find?_eq_none.mpr fun v _ hv => ?_
  obtain ⟨hin, haddr⟩ : v.val < s.plan.station.waterwayCount.toNat ∧ addr = natByte (0x1A + v.val) := by
    simpa using hv
  have hnot := h v
  have hval := eq_waterwayAddress_iff.mp haddr
  omega

/-! ## The grant that may follow (R97, R98) -/

theorem serveWindow_eq_self (h : (s.waterway w).window ≠ .free ∨ (s.waterway w).wait = [] ∨
    (s.waterway w).alarm = true) : s.serveWindow w = s := by
  unfold serveWindow
  split
  next => rfl
  next e rest hwait =>
    refine if_neg ?_
    rcases h with h | h | h
    · simp [h]
    · simp [h] at hwait
    · simp [h]

theorem serveWindow_grants {e : WaitEntry} {rest : List WaitEntry} (hfree : (s.waterway w).window = .free)
    (hwait : (s.waterway w).wait = e :: rest) (halarm : (s.waterway w).alarm = false) :
    s.serveWindow w = s.grantWindow w e.unit := by
  simp [serveWindow, hfree, hwait, halarm]

/-! ## Reading a report (R99) -/

/-- A report from waterway w is read, whatever its ALARM byte then does: the silence timer restarts and LAST_LEVEL
takes the report's level. -/
def levelRead (w : WaterwayNo) (level : Half) (s : State) : State :=
  s.updWaterway w fun y =>
    { y with
      silenceDeadline := some (s.inTenths s.plan.waterwayEntries[w.val].waterwaySilence)
      lastLevel := some level }

/-- ALARM is cleared with its alert, before any grant. -/
def alarmCleared (w : WaterwayNo) (s : State) : State :=
  (s.updWaterway w fun y => { y with alarm := false }).sendAlert .waterwayAlarm (waterwayByte w) 0

@[simp] theorem waterway_alarmCleared :
    (s.alarmCleared w).waterway w = { s.waterway w with alarm := false } := by
  simp [alarmCleared]

theorem clearAlarm_without_grant (h : (s.waterway w).window ≠ .free ∨ (s.waterway w).wait = []) :
    s.clearAlarm w = s.alarmCleared w :=
  serveWindow_eq_self (s := s.alarmCleared w) (by simpa [or_assoc] using h)

theorem clearAlarm_grants {e : WaitEntry} {rest : List WaitEntry} (hfree : (s.waterway w).window = .free)
    (hwait : (s.waterway w).wait = e :: rest) : s.clearAlarm w = (s.alarmCleared w).grantWindow w e.unit :=
  serveWindow_grants (s := s.alarmCleared w) (rest := rest) (by simpa using hfree) (by simpa using hwait) (by simp)

section

variable {alarm : Byte} {level : Half}

@[simp] theorem waterway_levelRead :
    (s.levelRead w level).waterway w =
      { s.waterway w with
        silenceDeadline := some (s.inTenths s.plan.waterwayEntries[w.val].waterwaySilence)
        lastLevel := some level } := by
  simp [levelRead]

/-- The table of R99: ALARM before the report against its ALARM byte. -/
theorem readWaterwayReport_eq :
    s.readWaterwayReport w alarm level =
      if (s.waterway w).alarm = true then
        if alarm = 0 then (s.levelRead w level).clearAlarm w else s.levelRead w level
      else if alarm = 0 then s.levelRead w level else (s.levelRead w level).raiseAlarm w 1 := by
  have hkept : ((s.levelRead w level).waterway w).alarm = (s.waterway w).alarm := by simp
  rw [← hkept]
  unfold readWaterwayReport
  dsimp only
  split
  next halarm hzero => exact (if_neg (ne_true_of_eq_false halarm)).trans (if_pos (of_decide_eq_true hzero)) |>.symm
  next halarm hzero => exact (if_neg (ne_true_of_eq_false halarm)).trans (if_neg (of_decide_eq_false hzero)) |>.symm
  next halarm hzero => exact (if_pos halarm).trans (if_neg (of_decide_eq_false hzero)) |>.symm
  next halarm hzero => exact (if_pos halarm).trans (if_pos (of_decide_eq_true hzero)) |>.symm

/-- A report that agrees with ALARM. -/
theorem readWaterwayReport_agreeing (h : (s.waterway w).alarm = true ↔ alarm ≠ 0) :
    s.readWaterwayReport w alarm level = s.levelRead w level := by
  rw [readWaterwayReport_eq]
  by_cases hset : (s.waterway w).alarm = true
  · rw [if_pos hset, if_neg (h.mp hset)]
  · rw [if_neg hset, if_pos (not_not.mp (mt h.mpr hset))]

theorem readWaterwayReport_raises (hclear : (s.waterway w).alarm = false) (h : alarm ≠ 0) :
    s.readWaterwayReport w alarm level = (s.levelRead w level).raiseAlarm w 1 := by
  rw [readWaterwayReport_eq, if_neg (by simp [hclear]), if_neg h]

theorem readWaterwayReport_clears (hset : (s.waterway w).alarm = true) :
    s.readWaterwayReport w 0 level = (s.levelRead w level).clearAlarm w := by
  simp [readWaterwayReport_eq, hset]

end

/-! ## Which reports are read (R99, R136) -/

theorem takeWaterwayReport_unread {t : Telegram} (h : t.payload.length ≠ 3 ∨ s.waterwayAt t.src = none) :
    s.takeWaterwayReport t = s := by
  unfold takeWaterwayReport
  split
  next hat hpayload => simp [hat, hpayload] at h
  next => rfl

theorem takeWaterwayReport_read {t : Telegram} {alarm : Byte} {level : Half} (hat : s.waterwayAt t.src = some w)
    (hpayload : t.payload = [alarm] ++ halfBytes level) :
    s.takeWaterwayReport t = s.readWaterwayReport w alarm level := by
  simp [takeWaterwayReport, hat, hpayload, halfBytes]

end State

/-- Settles O34: a report that is read restarts the timer and takes the level, and then acts by R99's table of ALARM
and its ALARM byte. -/
theorem waterwayReportSetsOrClearsAlarm : Obligations.WaterwayReportSetsOrClearsAlarm := by
  unfold Obligations.WaterwayReportSetsOrClearsAlarm
  intro dst src ident tag payload s hl hlen forwarded i
  set heard := s.heard .unit src with heq
  have htaken : exec i s = forwarded (heard.takeWaterwayReport (waterwayReportTelegram dst src ident tag payload)) :=
    exec_waterwayReport hl hlen
  refine ⟨fun hunread => ?_, fun w alarm level haddr hin hpayload => ?_⟩
  · have hnone := hunread.imp_right fun h =>
      State.waterwayAt_eq_none (s := heard) (addr := src) (by simpa [heq] using h)
    rw [htaken, State.takeWaterwayReport_unread hnone]
  · intro read cleared
    have hat : heard.waterwayAt src = some w := State.waterwayAt_eq_some haddr (by simpa [heq] using hin)
    have hreads : exec i s = forwarded (heard.readWaterwayReport w alarm level) := by
      rw [htaken, State.takeWaterwayReport_read hat hpayload]
    have hread : heard.levelRead w level = read := by simp [State.levelRead, State.inTenths, read, heq]
    have hways : heard.waterway w = s.waterway w := State.waterway_heard ..
    rw [hreads, ← hways]
    refine ⟨fun hclear h0 => ?agree, fun hclear h1 => ?raise, fun hset h1 => ?agree',
      fun hset h0 => ⟨fun hnot => ?clear, fun e rest hfree hwait => ?grant⟩⟩
    case agree => rw [State.readWaterwayReport_agreeing (iff_of_false (by simp [hclear]) (not_not.mpr h0)), hread]
    case agree' => rw [State.readWaterwayReport_agreeing (iff_of_true hset h1), hread]
    case raise =>
      rw [State.readWaterwayReport_raises hclear h1, hread]
      rfl
    case clear =>
      rw [h0, State.readWaterwayReport_clears hset, State.clearAlarm_without_grant (by simpa using hnot), hread]
      rfl
    case grant =>
      rw [h0, State.readWaterwayReport_clears hset,
        State.clearAlarm_grants (rest := rest) (by simpa using hfree) (by simpa using hwait), hread]
      rfl

end Sys2Proof.Machine
end

section
/-!
PROOFS. Chapter 8: the class of a supervisory telegram and the column it is judged in (R140, R142).
-/

namespace Sys2Proof.Machine

/-! ## When an entry matches (R140) -/

theorem Direction.accepts_iff {d : Direction} {p : PortName} :
    d.accepts p = true ↔ d = .both ∨ (d = .down ∧ p = .plant) ∨ (d = .up ∧ p = .unit) := by
  cases d <;> cases p <;> decide

/-- The model compares under a mask by exclusive or; the rule compares the masked values. -/
theorem masked_xor_eq_zero_iff {n : Nat} {x value mask : BitVec n} :
    (x ^^^ value) &&& mask = 0 ↔ x &&& mask = value &&& mask := by
  have hdistrib : (x ^^^ value) &&& mask = (x &&& mask) ^^^ (value &&& mask) := by
    ext
    simp [Bool.and_xor_distrib_right]
  rw [hdistrib]
  exact BitVec.xor_eq_zero_iff

@[simp] theorem byteAgrees_some {x value mask : Byte} :
    byteAgrees (some x) value mask = true ↔ x &&& mask = value &&& mask := by
  rw [← masked_xor_eq_zero_iff]
  exact decide_eq_true_iff

@[simp] theorem byteAgrees_none {value mask : Byte} : byteAgrees none value mask = true ↔ mask = 0 :=
  decide_eq_true_iff

theorem MatchEntry.matchesTelegram_iff {e : MatchEntry} {p : PortName} {t : Telegram} :
    e.matchesTelegram p t = true ↔
      e.enabled = true ∧
      (e.direction = .both ∨ (e.direction = .down ∧ p = .plant) ∨ (e.direction = .up ∧ p = .unit)) ∧
      (e.kind = none ∨ e.kind = some t.kind) ∧ t.ident &&& e.identMask = e.identValue &&& e.identMask ∧
      (∀ n, e.len = some n → n.toNat = t.payload.length) ∧
      byteAgrees t.payload[0]? e.dataValue0 e.dataMask0 = true ∧
      byteAgrees t.payload[1]? e.dataValue1 e.dataMask1 = true := by
  unfold matchesTelegram
  simp only [Bool.and_eq_true, and_assoc, decide_eq_true_iff, Direction.accepts_iff, masked_xor_eq_zero_iff]
  cases e.kind <;> cases e.len <;> simp

namespace State

variable {s : State} {p : PortName} {t : Telegram}

/-! ## The first entry that matches (R140) -/

theorem classify_eq_of_first {i : Fin 24} (hi : s.matchTable[i.val].matchesTelegram p t = true)
    (hbefore : ∀ j : Fin 24, j < i → ¬ s.matchTable[j.val].matchesTelegram p t = true) :
    s.classify p t = s.matchTable[i.val].cls := by
  have hfound : s.matchTable.toList.find? (fun e => e.matchesTelegram p t) = some s.matchTable[i.val] := by
    refine List.find?_eq_some_iff_getElem.mpr ⟨hi, i.val, by simp, by simp, fun j hj => ?_⟩
    simpa using hbefore ⟨j, hj.trans i.isLt⟩ hj
  simp [classify, hfound]

theorem classify_eq_zero (hnone : ∀ i : Fin 24, ¬ s.matchTable[i.val].matchesTelegram p t = true) :
    s.classify p t = 0 := by
  have hmissed : s.matchTable.toList.find? (fun e => e.matchesTelegram p t) = none := by
    refine List.find?_eq_none.mpr fun e he => ?_
    obtain ⟨i, hi, rfl⟩ := List.getElem_of_mem he
    simpa using hnone ⟨i, by simpa using hi⟩
  simp [classify, hmissed]

/-! ## The unit at a station address (R142) -/

theorem eq_unitAddress_iff {addr : Byte} {u : UnitNo} : addr = natByte (0x10 + u.val) ↔ addr.toNat = 0x10 + u.val := by
  rw [← BitVec.toNat_inj, natByte, BitVec.toNat_ofNat, Nat.mod_eq_of_lt (by omega)]

theorem unitAt_eq_find (addr : Byte) : s.unitAt addr =
    Fin.find? fun u : UnitNo => decide (addr.toNat = 0x10 + u.val ∧ u.val < s.plan.station.unitCount.toNat) := by
  rw [Fin.find?_eq_find?_finRange]
  unfold unitAt
  congr 1
  funext u
  simp [unitInService, eq_unitAddress_iff, and_comm]

/-- Two units never share an address, so the first unit found is the only one. -/
theorem unitAt_eq_some_iff {addr : Byte} {u : UnitNo} :
    s.unitAt addr = some u ↔ addr.toNat = 0x10 + u.val ∧ u.val < s.plan.station.unitCount.toNat := by
  simp only [unitAt_eq_find, Fin.find?_eq_some_iff, decide_eq_true_eq, decide_eq_false_iff_not, and_iff_left_iff_imp]
  intro ⟨haddr, _⟩ v hv ⟨haddr', _⟩
  omega

end State

/-! ## The column of a unit (R142) -/

namespace UnitRecord

variable {r : UnitRecord}

theorem column_unavailable (h : r.mode = .out ∨ r.mode = .tripped ∨ r.mode = .unknown) : r.column = .unavailable := by
  rcases h with h | h | h <;> simp [column, h]

theorem column_moving {m : Mode} (hm : r.mode = .settled m) (ht : r.transition ≠ none) : r.column = .moving := by
  simp [column, hm, Option.isSome_iff_ne_none, ht]

theorem column_atRest {m : Mode} (ht : r.transition = none) (hm : r.mode = .settled m) : r.column = modeColumn m := by
  simp [column, hm, ht]

end UnitRecord

/-- Settles O15: an entry's match is R140's list of conditions, the table is searched from index 0, and the column is
R142's table read at the unit's MODE and transition. -/
theorem classAndColumnOfASupervisoryTelegram : Obligations.ClassAndColumnOfASupervisoryTelegram := by
  unfold Obligations.ClassAndColumnOfASupervisoryTelegram
  refine ⟨fun p t s => ?classified, fun s addr u => State.unitAt_eq_some_iff, fun t => ⟨rfl, rfl⟩,
    fun r => ⟨UnitRecord.column_unavailable, fun m => UnitRecord.column_moving, fun ht => ?atRest⟩⟩
  case classified =>
    intro agrees hit
    have hagrees (k : Nat) (value mask : Byte) :
        agrees k value mask ↔ byteAgrees t.payload[k]? value mask = true := by
      simp only [agrees]
      cases t.payload[k]? with
      | some b => exact byteAgrees_some.symm
      | none => exact byteAgrees_none.symm
    have hhit (e : MatchEntry) : hit e ↔ e.matchesTelegram p t = true := by
      simp only [hit, hagrees, MatchEntry.matchesTelegram_iff]
    simp only [hhit]
    exact ⟨fun i => State.classify_eq_of_first, State.classify_eq_zero⟩
  case atRest =>
    have hcolumn {m : Mode} (hm : r.mode = .settled m) := UnitRecord.column_atRest ht hm
    exact ⟨hcolumn, hcolumn, hcolumn, hcolumn, hcolumn⟩

end Sys2Proof.Machine
end

section
/-!
PROOFS. Chapter 10: the record of IDENTIFY, the record of STATUS, and the latches that STATUS clears (R166, R167).
-/

namespace Sys2Proof.Machine

/-! ## Flag bytes (R165, R167) -/

theorem testBit_foldr_bits (bs : List Bool) (k : Nat) :
    (bs.foldr (fun (b : Bool) n => 2 * n + (if b then 1 else 0)) 0).testBit k = bs.getD k false := by
  induction bs generalizing k with
  | nil => simp
  | cons b bs ih =>
    cases k with
    | zero => cases b <;> simp [Nat.testBit_zero]
    | succ k =>
      rw [List.getD_cons_succ, ← ih k, Nat.testBit_succ, List.foldr_cons]
      congr 1
      split <;> omega

/-- Bit k of a flag byte is the k-th of its flags. -/
theorem getLsbD_bitsByte (bs : List Bool) {k : Nat} (hk : k < 8) : (bitsByte bs).getLsbD k = bs.getD k false := by
  rw [bitsByte, natByte, BitVec.getLsbD_ofNat, testBit_foldr_bits, decide_eq_true hk, Bool.true_and]

theorem getElem?_unitNumbers (u : UnitNo) : unitNumbers[u.val]? = some u := by
  revert u
  decide

/-! ## A request on its way to its answer (R159) -/

/-- A request other than RESET is answered by its code, on the state that its arrival leaves. -/
theorem takeRequest_answered {h : RequestHead} {code : Byte} {data : List Byte} {s : State} (hs : s.TakesRequests)
    (hd : data.length ≤ 60) (hc : code ≠ 16) :
    s.takeRequest h code data = State.answer h.tag code h.index
      ((s.heard .plant h.src).handle code { table := h.table, index := h.index, data := data }) :=
  (takeRequest_taken hs hd).trans (respondTo_handle hc)

theorem exec_identify {h : RequestHead} {data : List Byte} {s : State} (hs : s.TakesRequests)
    (hd : data.length ≤ 60) :
    exec (.identify h data) s = .next (State.answer h.tag 1 h.index
      ((s.heard .plant h.src).identify { table := h.table, index := h.index, data := data })) :=
  congrArg Host.Outcome.next (takeRequest_answered hs hd (by decide))

theorem exec_status {h : RequestHead} {data : List Byte} {s : State} (hs : s.TakesRequests) (hd : data.length ≤ 60) :
    exec (.status h data) s = .next (State.answer h.tag 2 h.index
      ((s.heard .plant h.src).status { table := h.table, index := h.index, data := data })) :=
  congrArg Host.Outcome.next (takeRequest_answered hs hd (by decide))

namespace State

variable {s : State} {r : Request}

/-- On the plant port an arrival changes a counter and at most the master silence timer (R151, R122). -/
theorem heard_plant_eq (src : Byte) : ∃ (counters : Counters) (deadline : Option Time),
    s.heard .plant src =
      { s with plantPort := { s.plantPort with counters := counters }, masterDeadline := deadline } := by
  unfold heard
  dsimp only
  split
  · exact ⟨_, _, rfl⟩
  · exact ⟨_, s.masterDeadline, rfl⟩

/-! ## IDENTIFY (R166) -/

theorem identify_ok (hd : r.data = []) : s.identify r = (s, .ok s.identityBytes) := if_neg (not_not.mpr hd)

theorem identify_badValue (hd : r.data ≠ []) : s.identify r = (s, .bad .badValue) := if_pos hd

/-! ## The answers of STATUS (R160, R167) -/

theorem status_badIndex (hi : 1 < r.index.toNat) : s.status r = (s, .bad .badIndex) := if_pos hi

theorem status_badValue (hi : r.index.toNat ≤ 1) (hd : r.data ≠ []) : s.status r = (s, .bad .badValue) := by
  rw [status, if_neg (by omega), if_pos hd]

/-- INDEX 0 only reports. -/
theorem status_report (hi : r.index = 0) (hd : r.data = []) : s.status r = (s, .ok s.statusBytes) := by
  simp [status, hi, hd]

/-- INDEX 1 reports the latches as they stand and then clears them. -/
theorem status_report_and_clear (hi : r.index = 1) (hd : r.data = []) :
    s.status r = (s.clearLatches, .ok s.statusBytes) := by
  simp [status, hi, hd]

/-! ## The status record (R167) -/

theorem converterBytes_eq (c : ConverterNo) :
    s.converterBytes c = [boolByte (s.converter c).isSome, ((s.converter c).map unitByte).getD 0xFF] := by
  unfold converterBytes
  cases s.converter c <;> rfl

/-- The record byte by byte, but for the two runs of a byte per unit. -/
theorem statusBytes_eq : s.statusBytes =
    [dispatcherCode s.dispatcher, boolByte s.program.running, s.program.run.start, hiByte s.program.run.length,
      loByte s.program.run.length, boolByte s.program.run.loop, s.program.currentRow] ++
    halfBytes (secondsRemaining s.now (if s.program.running then s.program.rowDeadline else none)) ++
    [boolByte s.program.pendingRun.isSome] ++
    (unitNumbers.map fun u => unitModeCode (s.unit u).mode) ++ (unitNumbers.map fun u => (s.unit u).flags) ++
    [natByte s.orders.length, boolByte (s.converter 0).isSome, ((s.converter 0).map unitByte).getD 0xFF,
      boolByte (s.converter 1).isSome, ((s.converter 1).map unitByte).getD 0xFF, windowByte (s.waterway 0).window,
      windowByte (s.waterway 1).window, s.levelByte, s.latchByte, s.summaryByte, s.linkByte] := by
  unfold statusBytes
  rw [converterBytes_eq, converterBytes_eq]
  rfl

theorem length_statusBytes : s.statusBytes.length = 37 := by
  rw [statusBytes_eq]
  rfl

theorem getElem?_statusBytes_mode (u : UnitNo) : s.statusBytes[10 + u.val]? = some (unitModeCode (s.unit u).mode) := by
  rw [statusBytes_eq]
  fin_cases u <;> rfl

theorem getElem?_statusBytes_flags (u : UnitNo) : s.statusBytes[18 + u.val]? = some (s.unit u).flags := by
  rw [statusBytes_eq]
  fin_cases u <;> rfl

theorem getElem?_statusBytes_converterState (c : ConverterNo) :
    s.statusBytes[27 + 2 * c.val]? = some (boolByte (s.converter c).isSome) := by
  rw [statusBytes_eq]
  fin_cases c <;> rfl

theorem getElem?_statusBytes_converterUnit (c : ConverterNo) :
    s.statusBytes[28 + 2 * c.val]? = some (((s.converter c).map unitByte).getD 0xFF) := by
  rw [statusBytes_eq]
  fin_cases c <;> rfl

theorem getElem?_statusBytes_window (w : WaterwayNo) :
    s.statusBytes[31 + w.val]? = some (windowByte (s.waterway w).window) := by
  rw [statusBytes_eq]
  fin_cases w <;> rfl

theorem getElem?_statusBytes_orders : s.statusBytes[26]? = some (natByte s.orders.length) := by
  rw [statusBytes_eq]
  rfl

theorem getElem?_statusBytes_flagBytes :
    s.statusBytes[33]? = some s.levelByte ∧ s.statusBytes[34]? = some s.latchByte ∧
      s.statusBytes[35]? = some s.summaryByte ∧ s.statusBytes[36]? = some s.linkByte := by
  rw [statusBytes_eq]
  exact ⟨rfl, rfl, rfl, rfl⟩

/-- No part of the record depends on what an arrival changes. -/
theorem statusBytes_heard_plant (src : Byte) : (s.heard .plant src).statusBytes = s.statusBytes := by
  obtain ⟨counters, deadline, heq⟩ := heard_plant_eq (s := s) src
  rw [heq]
  rfl

theorem reserve_heard_plant (src : Byte) :
    (s.heard .plant src).reserveA = s.reserveA ∧ (s.heard .plant src).reserveB = s.reserveB := by
  obtain ⟨counters, deadline, heq⟩ := heard_plant_eq (s := s) src
  rw [heq]
  exact ⟨rfl, rfl⟩

theorem getLsbD_summaryByte (u : UnitNo) : s.summaryByte.getLsbD u.val = (s.dutyOf u).summary := by
  rw [summaryByte, getLsbD_bitsByte _ u.isLt]
  simp [getElem?_unitNumbers]

/-! ## Clearing the latches (R167) -/

/-- An idempotent change of each unit named changes those records and nothing else. -/
theorem foldl_updUnit {f : UnitRecord → UnitRecord} (hf : ∀ x, f (f x) = f x) (us : List UnitNo) :
    ∃ units : Vector UnitRecord 8, us.foldl (fun t u => t.updUnit u f) s = { s with units := units } ∧
      ∀ v : UnitNo, units[v.val] = if v ∈ us then f (s.unit v) else s.unit v := by
  induction us generalizing s with
  | nil => exact ⟨s.units, rfl, fun v => rfl⟩
  | cons u us ih =>
    obtain ⟨units, heq, hread⟩ := ih (s := s.updUnit u f)
    refine ⟨units, heq, fun v => ?_⟩
    rw [hread, unit_updUnit]
    by_cases hu : v = u
    · simp [hu, hf]
    · simp [hu]

/-- The same for the waterways. -/
theorem foldl_updWaterway {f : Waterway → Waterway} (hf : ∀ x, f (f x) = f x) (ws : List WaterwayNo) :
    ∃ waterways : Vector Waterway 2,
      ws.foldl (fun t w => t.updWaterway w f) s = { s with waterways := waterways } ∧
      ∀ v : WaterwayNo, waterways[v.val] = if v ∈ ws then f (s.waterway v) else s.waterway v := by
  induction ws generalizing s with
  | nil => exact ⟨s.waterways, rfl, fun v => rfl⟩
  | cons w ws ih =>
    obtain ⟨waterways, heq, hread⟩ := ih (s := s.updWaterway w f)
    refine ⟨waterways, heq, fun v => ?_⟩
    rw [hread]
    by_cases hw : v = w
    · simp [hw, hf]
    · simp [hw, waterway_updWaterway_of_ne]

theorem clearLatches_eq : ∃ (units : Vector UnitRecord 8) (waterways : Vector Waterway 2),
    s.clearLatches =
      { s with
        units := units, waterways := waterways, reserveA := { s.reserveA with seen := false }
        reserveB := { s.reserveB with seen := false }, masterSilenceSeen := false } ∧
    (∀ u : UnitNo, units[u.val] = { s.unit u with tripSeen := false }) ∧
    (∀ w : WaterwayNo, waterways[w.val] = { s.waterway w with alarmSeen := false }) := by
  obtain ⟨units, hunits, hunit⟩ :=
    foldl_updUnit (s := s) (f := fun r => { r with tripSeen := false }) (fun _ => rfl) unitNumbers
  obtain ⟨waterways, hwaterways, hwaterway⟩ :=
    foldl_updWaterway (s := { s with units := units }) (f := fun x => { x with alarmSeen := false }) (fun _ => rfl)
      waterwayNumbers
  refine ⟨units, waterways, ?_, fun u => (hunit u).trans (if_pos (mem_unitNumbers u)),
    fun w => (hwaterway w).trans (if_pos (mem_waterwayNumbers w))⟩
  unfold clearLatches
  rw [hunits]
  dsimp only
  rw [hwaterways]
  rfl

end State

/-- Settles O42: a report answers with the record of the state before the event, which the arrival leaves as it is, and
the latches are cleared only in the state that the answer is placed in. -/
theorem identifyAndStatusReport : Obligations.IdentifyAndStatusReport := by
  unfold Obligations.IdentifyAndStatusReport
  intro h data s hs hlen s0
  rw [exec_identify hs hlen, exec_status hs hlen]
  obtain ⟨hlevels, hlatches, hsummaries, hlinks⟩ := State.getElem?_statusBytes_flagBytes (s := s)
  have hrecord : s0.statusBytes = s.statusBytes := State.statusBytes_heard_plant h.src
  refine ⟨fun hd => ?identity, fun hd => ?identityBad, fun hi => ?statusIndex, fun hi hd => ?statusValue,
    fun hi hd => ⟨s.statusBytes, State.length_statusBytes, ?head, State.getElem?_statusBytes_mode,
      fun u f hf => ?flags, State.getElem?_statusBytes_orders, fun c => ?converters, fun w => ?windows,
      fun b hb => ?levels, fun b hb => ?latches, fun b hb u => ?summaries, fun b hb => ?links,
      fun h0 => ?report, fun h1 => ⟨s0.clearLatches, ?cleared⟩⟩⟩
  case identity =>
    rw [State.identify_ok hd, answer_eq_replied, State.identityBytes, State.heard_dispatcher]
    rfl
  case identityBad =>
    rw [State.identify_badValue hd]
    rfl
  case statusIndex =>
    rw [State.status_badIndex hi]
    rfl
  case statusValue =>
    rw [State.status_badValue hi hd]
    rfl
  case head =>
    rw [State.statusBytes_eq]
    cases s.program.running <;> cases s.program.rowDeadline <;> rfl
  case flags =>
    obtain rfl : (s.unit u).flags = f := Option.some.inj ((State.getElem?_statusBytes_flags u).symm.trans hf)
    simp only [UnitRecord.flags]
    refine ⟨?_, ?_, ?_, ?_, ?_, ?_, ?_, ?_⟩ <;> exact getLsbD_bitsByte _ (by decide)
  case converters =>
    rw [State.getElem?_statusBytes_converterState, State.getElem?_statusBytes_converterUnit]
    exact ⟨fun hc => by rw [hc]; exact ⟨rfl, rfl⟩, fun u hc => by rw [hc]; exact ⟨rfl, rfl⟩⟩
  case windows =>
    rw [State.getElem?_statusBytes_window]
    exact ⟨fun hw => by rw [hw]; rfl, fun u hw => by rw [hw]; rfl, fun d hw => by rw [hw]; rfl⟩
  case levels =>
    obtain rfl : s.levelByte = b := Option.some.inj (hlevels.symm.trans hb)
    exact ⟨getLsbD_bitsByte _ (by decide), getLsbD_bitsByte _ (by decide)⟩
  case latches =>
    obtain rfl : s.latchByte = b := Option.some.inj (hlatches.symm.trans hb)
    refine ⟨?_, ?_, ?_, ?_, ?_⟩ <;> exact getLsbD_bitsByte _ (by decide)
  case summaries =>
    obtain rfl : s.summaryByte = b := Option.some.inj (hsummaries.symm.trans hb)
    exact State.getLsbD_summaryByte u
  case links =>
    obtain rfl : s.linkByte = b := Option.some.inj (hlinks.symm.trans hb)
    exact ⟨getLsbD_bitsByte _ (by decide), getLsbD_bitsByte _ (by decide)⟩
  case report =>
    rw [State.status_report h0 hd, answer_eq_replied, ← hrecord]
    rfl
  case cleared =>
    obtain ⟨hA, hB⟩ : s0.reserveA = s.reserveA ∧ s0.reserveB = s.reserveB := State.reserve_heard_plant h.src
    obtain ⟨units, waterways, hcleared, hunit, hwaterway⟩ := State.clearLatches_eq (s := s0)
    refine ⟨?_, fun u => ?_, fun w => ?_, ?_, ?_, ?_, ?_⟩
    · rw [State.status_report_and_clear h1 hd, answer_eq_replied, ← hrecord]
      rfl
    · rw [hcleared]
      exact (hunit u).trans (by rw [State.unit_heard])
    · rw [hcleared]
      exact (hwaterway w).trans (by rw [State.waterway_heard])
    · rw [hcleared, ← hA]
    · rw [hcleared, ← hB]
    · rw [hcleared]
    · rw [hcleared]

end Sys2Proof.Machine
end

section
/-!
PROOFS. Chapter 11: the requests that write and control the duty counters, and the clearing of the port counters (R156,
R161, R177, R178).
-/

namespace Sys2Proof.Machine

/-! ## The value of a COUNTER_WRITE (R177) -/

theorem parseValue_wordBytes (v : Word) : parseValue (wordBytes v) = some v := congrArg some (word_bytes v)

theorem parseValue_badLength {data : List Byte} (hd : data.length ≠ 4) : parseValue data = none := by
  unfold parseValue
  split
  next => exact absurd rfl hd
  next => rfl

namespace State

variable {s : State} {r : Request} {u : UnitNo} {n : CounterNo} {i : Half} {b : Bool}

/-- A counter's index names its unit and its number in it (R161). -/
theorem counterAt_eq {k : Fin 32} (hk : k.val = u.val * 4 + n.val) : counterAt k = (u, n) := by
  ext <;> simp only [counterAt] <;> omega

/-! ## What the arrival leaves of the duty registers -/

@[simp] theorem dutyOf_heard (p : PortName) (src : Byte) : (s.heard p src).dutyOf u = s.dutyOf u := by
  unfold heard
  dsimp only
  split
  · exact dutyOf_updCounters ..
  · simp

/-! ## COUNTER_WRITE (R161, R177) -/

theorem counterWrite_badIndex (hi : 32 ≤ r.index.toNat) : s.counterWrite r = (s, .bad .badIndex) :=
  dif_neg (by omega)

theorem counterWrite_badValue (hi : r.index.toNat < 32) (hd : r.data.length ≠ 4) :
    s.counterWrite r = (s, .bad .badValue) := by
  rw [counterWrite, dif_pos hi, parseValue_badLength hd]

theorem counterWrite_ok {v : Word} (hi : r.index.toNat = u.val * 4 + n.val) (hd : r.data = wordBytes v) :
    s.counterWrite r = (s.writeCounter u n v, .ok []) := by
  have h32 : r.index.toNat < 32 := by omega
  rw [counterWrite, dif_pos h32, hd, parseValue_wordBytes]
  dsimp only
  rw [counterAt_eq (k := ⟨r.index.toNat, h32⟩) hi]

/-! ## The unit actions of COUNTER_CONTROL (R161, R178) -/

theorem freezeAction_badIndex (hi : 8 ≤ i.toNat) : s.freezeAction b i = (s, .bad .badIndex) := dif_neg (by omega)

theorem freezeAction_unit (hu : u.val = i.toNat) : s.freezeAction b i = (s.setFreeze u b, .ok []) := by
  have h8 : i.toNat < 8 := hu ▸ u.isLt
  obtain rfl : u = ⟨i.toNat, h8⟩ := Fin.ext hu
  exact dif_pos h8

theorem clearAction_badIndex (hi : 8 ≤ i.toNat) (hall : i ≠ 0x00FF) : s.clearAction i = (s, .bad .badIndex) := by
  rw [clearAction, dif_neg (by omega), if_neg hall]

theorem clearAction_unit (hu : u.val = i.toNat) : s.clearAction i = (s.clearOverflow u, .ok []) := by
  have h8 : i.toNat < 8 := hu ▸ u.isLt
  obtain rfl : u = ⟨i.toNat, h8⟩ := Fin.ext hu
  exact dif_pos h8

theorem clearAction_all : s.clearAction 0x00FF = (unitNumbers.foldl clearOverflow s, .ok []) := rfl

/-- An idempotent change of the duty registers of each unit named changes those registers and nothing else. -/
theorem foldl_updDuty_units {f : Duty → Duty} (hf : ∀ d, f (f d) = f d) (us : List UnitNo) :
    ∃ duty : Vector Duty 8, us.foldl (fun t u => t.updDuty u f) s = { s with duty := duty } ∧
      ∀ v : UnitNo, duty[v.val] = if v ∈ us then f (s.dutyOf v) else s.dutyOf v := by
  induction us generalizing s with
  | nil => exact ⟨s.duty, rfl, fun v => rfl⟩
  | cons u us ih =>
    obtain ⟨duty, heq, hread⟩ := ih (s := s.updDuty u f)
    refine ⟨duty, heq, fun v => ?_⟩
    rw [hread]
    by_cases hu : v = u
    · simp [hu, hf]
    · simp [hu, dutyOf_updDuty_of_ne]

/-- Action 5 on every unit clears the latches of each, and FREEZE stays (R178). -/
theorem foldl_clearOverflow_eq : ∃ duty : Vector Duty 8,
    unitNumbers.foldl clearOverflow s = { s with duty := duty } ∧
      ∀ v : UnitNo, duty[v.val] = { s.dutyOf v with latches := 0, summary := false } := by
  obtain ⟨duty, heq, hread⟩ :=
    foldl_updDuty_units (s := s) (f := fun d => { d with latches := 0, summary := false }) (fun _ => rfl) unitNumbers
  exact ⟨duty, heq, fun v => (hread v).trans (if_pos (mem_unitNumbers v))⟩

/-! ## READ_CLEAR (R156, R161) -/

theorem readClear_badIndex (hi : 1 < r.index.toNat) : s.readClear r = (s, .bad .badIndex) := if_pos hi

theorem readClear_badValue (hi : r.index.toNat ≤ 1) (hd : r.data ≠ []) : s.readClear r = (s, .bad .badValue) := by
  rw [readClear, if_neg (by omega), if_pos hd]

theorem readClear_plant (hi : r.index = 0) (hd : r.data = []) : s.readClear r = s.readClearPort .plant := by
  simp [readClear, hi, hd]

theorem readClear_unit (hi : r.index = 1) (hd : r.data = []) : s.readClear r = s.readClearPort .unit := by
  simp [readClear, hi, hd]

end State

/-! ## The commands -/

section

variable {h : RequestHead} {data : List Byte} {s : State}

theorem exec_counterWrite (hs : s.TakesRequests) (hd : data.length ≤ 60) :
    exec (.counterWrite h data) s = .next (State.answer h.tag 13 h.index
      ((s.heard .plant h.src).counterWrite { table := h.table, index := h.index, data := data })) :=
  congrArg Host.Outcome.next (takeRequest_answered hs hd (by decide))

theorem exec_readClear (hs : s.TakesRequests) (hd : data.length ≤ 60) :
    exec (.readClear h data) s = .next (State.answer h.tag 15 h.index
      ((s.heard .plant h.src).readClear { table := h.table, index := h.index, data := data })) :=
  congrArg Host.Outcome.next (takeRequest_answered hs hd (by decide))

/-- A COUNTER_CONTROL with one byte of DATA, whatever its action. -/
theorem takeRequest_counterControl (hs : s.TakesRequests) (action : Byte) :
    s.takeRequest h 14 [action] = State.answer h.tag 14 h.index
      ((s.heard .plant h.src).counterControl { table := h.table, index := h.index, data := [action] }) :=
  takeRequest_answered hs (by simp) (by decide)

theorem exec_globalFreezeSet (hs : s.TakesRequests) :
    exec (.globalFreezeSet h) s =
      .next (({ s.heard .plant h.src with globalFreeze := true } : State).replied h 14 .ok []) :=
  congrArg Host.Outcome.next (takeRequest_counterControl hs 1)

theorem exec_globalFreezeClear (hs : s.TakesRequests) :
    exec (.globalFreezeClear h) s =
      .next (({ s.heard .plant h.src with globalFreeze := false } : State).replied h 14 .ok []) :=
  congrArg Host.Outcome.next (takeRequest_counterControl hs 2)

theorem exec_unitFreezeSet (hs : s.TakesRequests) :
    exec (.unitFreezeSet h) s =
      .next (State.answer h.tag 14 h.index ((s.heard .plant h.src).freezeAction true h.index)) :=
  congrArg Host.Outcome.next (takeRequest_counterControl hs 3)

theorem exec_unitFreezeClear (hs : s.TakesRequests) :
    exec (.unitFreezeClear h) s =
      .next (State.answer h.tag 14 h.index ((s.heard .plant h.src).freezeAction false h.index)) :=
  congrArg Host.Outcome.next (takeRequest_counterControl hs 4)

theorem exec_clearOverflowLatches (hs : s.TakesRequests) :
    exec (.clearOverflowLatches h) s =
      .next (State.answer h.tag 14 h.index ((s.heard .plant h.src).clearAction h.index)) :=
  congrArg Host.Outcome.next (takeRequest_counterControl hs 5)

end

/-- Settles O52: each request acts on the state that its arrival leaves, and its answer is placed in the state that the
action leaves. -/
theorem counterRequestsAct : Obligations.CounterRequestsAct := by
  unfold Obligations.CounterRequestsAct
  refine ⟨fun h s hs => ?control, fun h data s hs hlen => ?clear⟩
  case control =>
    intro s0
    rw [exec_unitFreezeSet hs, exec_unitFreezeClear hs, exec_clearOverflowLatches hs]
    refine ⟨fun data hlen => ?write, exec_globalFreezeSet hs, exec_globalFreezeClear hs,
      fun hi => ⟨?setIndex, ?clearIndex, fun hall => ?latchIndex⟩, fun u hu => ⟨?set, ?unset, ?latch⟩,
      fun hall => ?latchAll⟩
    case write =>
      rw [exec_counterWrite hs hlen]
      refine ⟨fun hi => ?_, fun hi hd => ?_, fun u n v hi hd => ?_⟩
      · rw [State.counterWrite_badIndex hi]
        rfl
      · rw [State.counterWrite_badValue hi hd]
        rfl
      · rw [State.counterWrite_ok hi hd]
        rfl
    case setIndex =>
      rw [State.freezeAction_badIndex hi]
      rfl
    case clearIndex =>
      rw [State.freezeAction_badIndex hi]
      rfl
    case latchIndex =>
      rw [State.clearAction_badIndex hi hall]
      rfl
    case set =>
      rw [State.freezeAction_unit hu]
      rfl
    case unset =>
      rw [State.freezeAction_unit hu]
      rfl
    case latch =>
      rw [State.clearAction_unit hu]
      rfl
    case latchAll =>
      obtain ⟨duty, heq, hread⟩ := State.foldl_clearOverflow_eq (s := s0)
      refine ⟨{ s0 with duty := duty }, ?_, rfl, fun u => (hread u).trans (by rw [State.dutyOf_heard])⟩
      rw [hall, State.clearAction_all, heq, ← hall]
      rfl
  case clear =>
    intro s0
    rw [exec_readClear hs hlen]
    refine ⟨fun hi => ?index, fun hi hd => ?value, fun p hi hd => ?port⟩
    case index =>
      rw [State.readClear_badIndex hi]
      rfl
    case value =>
      rw [State.readClear_badValue hi hd]
      rfl
    case port =>
      cases p with
      | plant =>
        rw [State.readClear_plant hi hd]
        rfl
      | unit =>
        rw [State.readClear_unit hi hd]
        rfl

end Sys2Proof.Machine
end

section
/-!
PROOFS. What a step can do to the parts that the invariants speak of: the ports, the order queue, the dispatcher, the plan
tables, and what waits, moves and is held for each unit. Each operation of the model gets one lemma, and every invariant
is then read off the changes listed here.
-/

namespace Sys2Proof.Machine

open Relation

/-! ## The changes -/

/-- Everything that the invariants speak of is the same in both states. -/
structure SameCore (s t : State) : Prop where
  plan : t.plan = s.plan
  orders : t.orders = s.orders
  ageCount : t.ageCount = s.ageCount
  dispatcher : t.dispatcher = s.dispatcher
  plantPort : t.plantPort = s.plantPort
  unitPort : t.unitPort = s.unitPort
  transition : ∀ u, (t.unit u).transition = (s.unit u).transition
  reserveClaim : ∀ u, (t.unit u).reserveClaim = (s.unit u).reserveClaim
  holdQueue : ∀ u, (t.unit u).holdQueue = (s.unit u).holdQueue

/-- A change that starts nothing, ends nothing, and makes nothing wait. -/
inductive Quiet : State → State → Prop where
  | same {s t} : SameCore s t → Quiet s t
  | port {s} (p : PortName) (f : PortState → PortState) :
      ((s.port p).Bounded → (f (s.port p)).Bounded) → Quiet s (s.updPort p f)
  | transition {s} (u : UnitNo) (f : Transition → Transition) : Quiet s (s.updTransition u f)
  | hold {s} (u : UnitNo) (x : Held) : (s.unit u).transition ≠ none → (s.unit u).holdQueue.length < 4 →
      Quiet s (s.updUnit u fun r => { r with holdQueue := r.holdQueue ++ [x] })

/-- A change that claims and transitions make. Orders and reserve claims come in only where `arrives` is true (R46, R111,
R112). -/
inductive Move (arrives : Bool) : State → State → Prop where
  | quiet {s t} : Quiet s t → Move arrives s t
  | start {s} (u : UnitNo) (x : Transition) : (s.orders ≠ [] ∨ (s.unit u).reserveClaim ≠ none) →
      Move arrives s (s.updUnit u fun r => { r with transition := some x })
  | finish {s} (u : UnitNo) : Move arrives s (s.updUnit u fun r => { r with transition := none, holdQueue := [] })
  | unclaim {s} (u : UnitNo) : Move arrives s (s.updUnit u fun r => { r with reserveClaim := none })
  | depart {s} (l : List Order) : l.Sublist s.orders → Move arrives s { s with orders := l }
  | append {s} (a : State.Arrival) : arrives = true → s.dispatcher = .directed ∨ s.dispatcher = .autonomous →
      s.orders.length < 16 → (∀ u, a.target = .unit u → ∀ o ∈ s.orders, o.target ≠ .unit u) →
      Move arrives s (s.appendOrder a)
  | claim {s} (u : UnitNo) (c : ReserveClaim) : arrives = true → s.dispatcher ≠ .unplanned →
      Move arrives s (s.updUnit u fun r => { r with reserveClaim := some c })

/-- Some quiet changes, one after the other. -/
def Calm : State → State → Prop := ReflTransGen Quiet

/-- Some changes of claims and transitions, one after the other. -/
def Moves (arrives : Bool) : State → State → Prop := ReflTransGen (Move arrives)

theorem Calm.refl {s : State} : Calm s s := ReflTransGen.refl

theorem Calm.single {s t : State} (h : Quiet s t) : Calm s t := ReflTransGen.single h

theorem Calm.trans {s t v : State} (h : Calm s t) (h' : Calm t v) : Calm s v := ReflTransGen.trans h h'

theorem Moves.refl {b : Bool} {s : State} : Moves b s s := ReflTransGen.refl

theorem Moves.single {b : Bool} {s t : State} (h : Move b s t) : Moves b s t := ReflTransGen.single h

theorem Moves.trans {b : Bool} {s t v : State} (h : Moves b s t) (h' : Moves b t v) : Moves b s v :=
  ReflTransGen.trans h h'

theorem Calm.moves {b : Bool} {s t : State} (h : Calm s t) : Moves b s t :=
  ReflTransGen.mono (fun _ _ => Move.quiet) _ _ h

/-- A fold of calm operations is calm. -/
theorem Calm.foldl {α : Type} {g : State → α → State} (hg : ∀ s x, Calm s (g s x)) (l : List α) (s : State) :
    Calm s (l.foldl g s) := by
  induction l generalizing s with
  | nil => exact .refl
  | cons x l ih => exact (hg s x).trans (ih _)

theorem Moves.foldl {b : Bool} {α : Type} {g : State → α → State} (hg : ∀ s x, Moves b s (g s x)) (l : List α)
    (s : State) : Moves b s (l.foldl g s) := by
  induction l generalizing s with
  | nil => exact .refl
  | cons x l ih => exact (hg s x).trans (ih _)

theorem SameCore.refl (s : State) : SameCore s s :=
  ⟨rfl, rfl, rfl, rfl, rfl, rfl, fun _ => rfl, fun _ => rfl, fun _ => rfl⟩

/-- A change of a unit record that leaves TRANSITION, RESERVE_CLAIM and HOLD_QUEUE. -/
structure OuterStep (r r' : UnitRecord) : Prop where
  transition : r'.transition = r.transition
  reserveClaim : r'.reserveClaim = r.reserveClaim
  holdQueue : r'.holdQueue = r.holdQueue

namespace State

variable {s : State} {u : UnitNo} {p : PortName} {b : Bool}

theorem sameCore_updUnit {f : UnitRecord → UnitRecord} (hf : OuterStep (s.unit u) (f (s.unit u))) :
    SameCore s (s.updUnit u f) := by
  refine ⟨rfl, rfl, rfl, rfl, rfl, rfl, fun v => ?_, fun v => ?_, fun v => ?_⟩ <;> rw [unit_updUnit] <;> split
  · next h => rw [h, hf.transition]
  · rfl
  · next h => rw [h, hf.reserveClaim]
  · rfl
  · next h => rw [h, hf.holdQueue]
  · rfl

theorem calm_same {t : State} (h : SameCore s t) : Calm s t := .single (.same h)

/-- Every field that no invariant speaks of may change. -/
theorem calm_fields {pending now freeCount requestSerial lines matchTable guardTable converters converterWait waterways
    reserveA reserveB masterDeadline masterSilenceSeen schedule program resetPending duty globalFreeze} :
    Calm s { s with
      pending := pending, now := now, freeCount := freeCount, requestSerial := requestSerial, lines := lines
      matchTable := matchTable, guardTable := guardTable, converters := converters, converterWait := converterWait
      waterways := waterways, reserveA := reserveA, reserveB := reserveB, masterDeadline := masterDeadline
      masterSilenceSeen := masterSilenceSeen, schedule := schedule, program := program, resetPending := resetPending
      duty := duty, globalFreeze := globalFreeze } :=
  calm_same ⟨rfl, rfl, rfl, rfl, rfl, rfl, fun _ => rfl, fun _ => rfl, fun _ => rfl⟩

theorem calm_updUnit {f : UnitRecord → UnitRecord} (hf : OuterStep (s.unit u) (f (s.unit u))) :
    Calm s (s.updUnit u f) := calm_same (sameCore_updUnit hf)

theorem calm_updDuty (f : Duty → Duty) : Calm s (s.updDuty u f) :=
  calm_fields

theorem calm_updWaterway (w : WaterwayNo) (f : Waterway → Waterway) : Calm s (s.updWaterway w f) :=
  calm_fields

theorem calm_updReserveLine (l : ReserveLine) (f : ReserveState → ReserveState) : Calm s (s.updReserveLine l f) := by
  cases l <;> exact calm_fields

theorem calm_updTransition (f : Transition → Transition) : Calm s (s.updTransition u f) := .single (.transition u f)

/-! ## Ports -/

theorem calm_updPort {f : PortState → PortState} (hf : (s.port p).Bounded → (f (s.port p)).Bounded) :
    Calm s (s.updPort p f) := .single (.port p f hf)

theorem calm_updCounters (f : Counters → Counters) : Calm s (s.updCounters p f) := calm_updPort id

theorem calm_countDroppedGuard (n : Nat) : Calm s (s.countDroppedGuard p n) := calm_updCounters _

/-- A composed telegram is placed only in a queue of an UP port with room for it (R152). -/
theorem calm_originate (t : Telegram) : Calm s (s.originate p t) := by
  unfold originate
  split
  · next h =>
    simp only [canOriginate, Bool.and_eq_true, decide_eq_true_eq] at h
    refine calm_updPort fun ⟨_, hf, _⟩ => ⟨?_, hf, fun hl => absurd (hl.symm.trans h.1) Bool.false_ne_true⟩
    rw [List.length_append, List.length_singleton]
    omega
  · exact calm_updCounters _

theorem calm_forwardTo (t : Telegram) : Calm s (s.forwardTo p t) := by
  unfold forwardTo
  split
  · next h =>
    simp only [Bool.and_eq_true, decide_eq_true_eq] at h
    refine calm_updPort fun ⟨ho, _, _⟩ => ⟨ho, ?_, fun hl => absurd (hl.symm.trans h.1) Bool.false_ne_true⟩
    rw [List.length_append, List.length_singleton]
    omega
  · exact calm_updCounters _

/-! ## Counting (R173, R175, R176) -/

theorem calm_overflow (n : CounterNo) : Calm s (overflow u s n) := by
  unfold overflow
  extract_lets s1 s2
  have h2 : Calm s s2 := by
    unfold s2
    split
    · exact (calm_updDuty _).trans (calm_originate _)
    · exact calm_updDuty _
  split
  · exact h2.trans (calm_updDuty _)
  · exact h2

theorem calm_countAll (ns : List CounterNo) : Calm s (s.countAll u ns) := by
  unfold countAll
  exact (Calm.foldl (fun _ _ => calm_updDuty _) _ _).trans (Calm.foldl (fun _ n => calm_overflow n) _ _)

theorem calm_dutyEvent (e : DutyEvent) : Calm s (s.dutyEvent e u) := calm_countAll _

theorem calm_changeMode (m : UnitMode) : Calm s (s.changeMode u m) := by
  unfold changeMode
  extract_lets old s1
  have h1 : Calm s s1 := calm_updUnit ⟨rfl, rfl, rfl⟩
  split
  · exact h1
  · split
    · exact h1.trans (calm_dutyEvent _)
    · exact h1

/-! ## Phases and resources (R67 to R69, chapter 5) -/

theorem calm_sendSetpointCommand (sp : Half) : Calm s (s.sendSetpointCommand u sp) :=
  (calm_originate _).trans (calm_updUnit ⟨rfl, rfl, rfl⟩)

theorem calm_sendPhaseCommand : Calm s (s.sendPhaseCommand u) := by
  unfold sendPhaseCommand
  split
  · exact .refl
  · extract_lets p sp s1
    split
    · exact (calm_originate _).trans (calm_updUnit ⟨rfl, rfl, rfl⟩)
    · exact calm_originate _

theorem calm_becomeRunning : Calm s (s.becomeRunning u) := by
  unfold becomeRunning
  split
  · exact .refl
  · exact ((calm_updTransition _).trans calm_sendPhaseCommand).trans (calm_updTransition _)

theorem calm_grantWindow (w : WaterwayNo) : Calm s (s.grantWindow w u) :=
  (((calm_updWaterway _ _).trans (calm_dutyEvent _)).trans (calm_updTransition _)).trans calm_becomeRunning

theorem calm_requestWindow : Calm s (s.requestWindow u) := by
  unfold requestWindow
  extract_lets w
  split
  · exact calm_grantWindow w
  · exact calm_fields

theorem calm_grantConverter (c : ConverterNo) : Calm s (s.grantConverter c u) := by
  unfold grantConverter
  extract_lets s1 s2 s3 s4 s5
  have h2 : Calm s s2 := calm_fields
  have h5 : Calm s s5 := ((h2.trans (calm_originate _)).trans (calm_dutyEvent _)).trans (calm_updTransition _)
  split
  · exact h5.trans calm_requestWindow
  · exact h5.trans calm_becomeRunning

theorem calm_requestConverter : Calm s (s.requestConverter u) := by
  unfold requestConverter
  split
  · exact calm_grantConverter _
  · exact calm_fields

theorem calm_releaseConverter : Calm s (s.releaseConverter u) := by
  unfold releaseConverter
  split
  · exact .refl
  · split
    · exact .refl
    · extract_lets s1 s2 s3
      have h2 : Calm s1 s2 := calm_fields
      have h3 : Calm s s3 := ((calm_updTransition _).trans h2).trans (calm_originate _)
      split
      · exact h3
      · exact h3.trans (calm_grantConverter _)

theorem calm_serveWindow (w : WaterwayNo) : Calm s (s.serveWindow w) := by
  unfold serveWindow
  split
  · exact .refl
  · split
    · exact calm_grantWindow w
    · exact .refl

theorem calm_releaseWindow : Calm s (s.releaseWindow u) := by
  unfold releaseWindow
  split
  · exact .refl
  · split
    · exact .refl
    · extract_lets s1
      split
      · exact ((calm_updTransition _).trans (calm_updWaterway _ _)).trans (calm_serveWindow _)
      · exact (calm_updTransition _).trans (calm_updWaterway _ _)

theorem calm_withdrawEntry : Calm s (s.withdrawEntry u) := by
  unfold withdrawEntry
  exact Calm.trans calm_fields (Calm.foldl (fun _ _ => calm_updWaterway _ _) _ _)

theorem calm_rerankEntry (r : Nat) : Calm s (s.rerankEntry u r) := by
  unfold rerankEntry
  exact Calm.trans calm_fields (Calm.foldl (fun _ _ => calm_updWaterway _ _) _ _)

theorem calm_phaseStart (k : Nat) : Calm s (s.phaseStart u k) := by
  unfold phaseStart
  split
  · exact .refl
  · extract_lets claim ac aw s1 s2
    split
    · exact (calm_updTransition _).trans calm_becomeRunning
    · have h2 : Calm s s2 := (calm_updTransition _).trans (calm_updTransition _)
      split
      · exact h2.trans calm_requestConverter
      · exact h2.trans calm_requestWindow

theorem calm_retryPhase (t : Transition) : Calm s (s.retryPhase u t) :=
  (((((calm_updTransition _).trans calm_sendPhaseCommand).trans (calm_updTransition _)).trans (calm_originate _)).trans
    (calm_dutyEvent _))

theorem calm_settleSetpoint (m : Mode) (sp : Half) : Calm s (s.settleSetpoint u m sp) := by
  unfold settleSetpoint
  split
  · exact calm_sendSetpointCommand sp
  · exact .refl

theorem calm_land (x : Phase) : Calm s (s.land u x) := by
  unfold land
  extract_lets s1 s2 s3
  have h1 : Calm s s1 := by
    unfold s1
    split
    · exact .refl
    · exact calm_releaseConverter
  have h2 : Calm s1 s2 := by
    unfold s2
    split
    · exact .refl
    · exact calm_releaseWindow
  exact ((h1.trans h2).trans (calm_updTransition _)).trans (calm_changeMode _)

/-! ## Hold queues (R143 to R146) -/

/-- The column MOVING is that of a unit with a transition in flight (R142). -/
theorem transition_of_moving {r : UnitRecord} (h : r.column = .moving) : r.transition ≠ none := by
  intro ht
  unfold UnitRecord.column at h
  split at h <;> simp_all
  next m _ => cases m <;> simp [modeColumn] at h

theorem calm_hold {k : Fin 16} {t : Telegram} (ht : (s.unit u).transition ≠ none) : Calm s (s.hold u p k t) := by
  unfold hold
  split
  · next h => exact .single (.hold u _ ht h)
  · exact ((calm_updCounters _).trans (calm_dutyEvent _)).trans (calm_originate _)

theorem calm_judge (t : Telegram) : Calm s (s.judge p t) := by
  unfold judge
  extract_lets k
  split
  · split
    · exact calm_updCounters _
    · exact calm_forwardTo _
    · exact calm_forwardTo _
  · extract_lets c
    split
    · exact calm_forwardTo _
    · exact calm_updCounters _
    · split
      · next h => exact calm_hold (transition_of_moving h.2)
      · exact calm_forwardTo _

theorem calm_judgeHeld (x : Held) : Calm s (judgeHeld u s x) := by
  unfold judgeHeld
  split
  · exact calm_forwardTo _
  · exact calm_forwardTo _
  · exact calm_updCounters _

/-! ## The end of a transition (R86) -/

theorem updUnit_updUnit (f g : UnitRecord → UnitRecord) : (s.updUnit u f).updUnit u g = s.updUnit u fun r => g (f r) := by
  simp [updUnit]

theorem moves_endTransition (st : Status) (r : Reason) (byTrip : Bool) : Moves b s (s.endTransition u st r byTrip) := by
  unfold endTransition
  split
  · exact .refl
  · extract_lets s1 s2 s3 s4 s5 s6
    have h5 : Calm s s5 := by
      have h4 : Calm s s4 :=
        ((calm_withdrawEntry.trans calm_releaseConverter).trans calm_releaseWindow).trans (calm_originate _)
      unfold s5
      split
      · exact h4.trans (calm_dutyEvent _)
      · exact h4
    have h6 : Moves b s (s6.updUnit u fun x => { x with holdQueue := [] }) := by
      unfold s6
      rw [updUnit_updUnit]
      exact h5.moves.trans (.single (.finish u))
    split
    · exact h6.trans (calm_countDroppedGuard _).moves
    · exact h6.trans (Calm.foldl (fun _ x => calm_judgeHeld x) _ _).moves

theorem moves_completePhase : Moves b s (s.completePhase u) := by
  unfold completePhase
  split
  · exact .refl
  · extract_lets s1
    have h1 : Calm s s1 := calm_land _
    split
    · exact h1.moves.trans (moves_endTransition _ _ _)
    · split
      · exact (h1.trans (calm_settleSetpoint _ _)).moves.trans (moves_endTransition _ _ _)
      · exact (h1.trans (calm_phaseStart _)).moves

theorem moves_timeoutPhase (t : Transition) : Moves b s (s.timeoutPhase u t) := by
  unfold timeoutPhase
  extract_lets s1 s2 s3 s4
  have h2 : Calm s s2 := (calm_originate _).trans (calm_changeMode _)
  have h4 : Calm s2 s4 := (calm_originate _).trans (calm_dutyEvent _)
  exact (h2.trans h4).moves.trans (moves_endTransition _ _ _)

/-! ## Start attempts and pool passes (R53 to R57) -/

theorem moves_removeClaim (slot : Slot) : Moves b s (s.removeClaim u slot) := by
  cases slot with
  | reserve => exact .single (.unclaim u)
  | queue k => exact .single (.depart _ (List.eraseIdx_sublist _ _))

theorem moves_completeAtOnce (slot : Slot) (c : Claim) : Moves b s (s.completeAtOnce u slot c) :=
  ((calm_settleSetpoint _ _).moves.trans (moves_removeClaim slot)).trans (calm_originate _).moves

theorem moves_failNoRoute (slot : Slot) (c : Claim) : Moves b s (s.failNoRoute u slot c) :=
  (moves_removeClaim slot).trans (calm_originate _).moves

/-- The record is created and the claim leaves, in either order. -/
theorem updUnit_removeClaim (slot : Slot) (x : Option Transition) :
    (s.removeClaim u slot).updUnit u (fun r => { r with transition := x }) =
      (s.updUnit u fun r => { r with transition := x }).removeClaim u slot := by
  cases slot with
  | reserve => simp only [removeClaim, updUnit_updUnit]
  | queue k => rfl

theorem moves_startClaim {m : Mode} {r : Fin 32} {slot : Slot} {c : Claim} (h : s.takenClaim u = some (slot, c)) :
    Moves b s (s.startClaim u m r slot c) := by
  unfold startClaim
  extract_lets s1 s2 s3
  have hw : s.orders ≠ [] ∨ (s.unit u).reserveClaim ≠ none := by
    rcases takenClaim_slot h with ⟨_, hc⟩ | ⟨k, _, hk, _⟩
    · exact .inr hc
    · exact .inl (List.ne_nil_of_length_pos (by omega))
  have h2 : Moves b s s2 := by
    unfold s2 s1
    rw [updUnit_removeClaim]
    exact (Moves.single (.start u _ hw)).trans (moves_removeClaim slot)
  exact h2.trans ((calm_originate _).trans (calm_phaseStart _)).moves

theorem moves_attemptLoop (fuel : Nat) : Moves b s (attemptLoop fuel u s).1 := by
  induction fuel generalizing s with
  | zero => exact .refl
  | succ fuel ih =>
    unfold attemptLoop
    extract_lets r
    split
    · split
      · exact .refl
      · split
        · exact .refl
        · next ht =>
          split
          · exact (moves_completeAtOnce _ _).trans ih
          · split
            · exact (moves_failNoRoute _ _).trans ih
            · exact moves_startClaim ht
    all_goals exact .refl

theorem moves_attemptUnit : Moves b s (s.attemptUnit u).1 := moves_attemptLoop _

theorem moves_poolWalk (fuel k : Nat) (progress : Bool) : Moves b s (poolWalk fuel k progress s).1 := by
  induction fuel generalizing k progress s with
  | zero => exact .refl
  | succ fuel ih =>
    unfold poolWalk
    split
    · exact .refl
    · split
      · exact ih ..
      · next v _ =>
        have hv : Moves b s (s.attemptUnit v).1 := moves_attemptUnit
        split <;> next e => rw [e] at hv; exact hv.trans (ih ..)

theorem moves_poolLoop (fuel : Nat) : Moves b s (poolLoop fuel s) := by
  induction fuel generalizing s with
  | zero => exact .refl
  | succ fuel ih =>
    unfold poolLoop
    have hw : Moves b s (poolWalk s.orders.length 0 false s).1 := moves_poolWalk ..
    split <;> next e => rw [e] at hw; first | exact hw.trans ih | exact hw

theorem moves_poolPass : Moves b s s.poolPass := moves_poolLoop _

/-- A start attempt (R53, R57). -/
theorem moves_startAttempt : Moves b s (s.startAttempt u) := moves_attemptUnit.trans moves_poolPass

/-! ## Offers (R50, R77 to R80) -/

theorem moves_removeOffered (c : Claim) : Moves b s (s.removeOffered u c) := by
  unfold removeOffered
  split
  · exact .single (.unclaim u)
  · exact .single (.depart _ List.filter_sublist)

theorem moves_merge (t : Transition) (c : Claim) : Moves b s (s.merge u t c) := by
  unfold merge
  extract_lets s1 s2 s3 s4
  have h4 : Moves b s s4 :=
    ((calm_originate _).moves.trans (moves_removeOffered c)).trans ((calm_updTransition _).trans (calm_originate _)).moves
  split
  · exact h4.trans (calm_rerankEntry _).moves
  · exact h4

theorem moves_offer (t : Transition) (c : Claim) : Moves b s (s.offer u t c) := by
  unfold offer
  split
  · exact .refl
  · split
    · exact moves_merge t c
    · split
      · exact (calm_updTransition _).moves
      · exact (moves_endTransition _ _ _).trans moves_startAttempt

theorem moves_actOn (c : Claim) : Moves b s (s.actOn u c) := by
  unfold actOn
  split
  · exact moves_offer _ c
  · exact moves_startAttempt

/-! ## Orders that leave the queue (R58 to R60, R46) -/

theorem calm_clearCutOf (o : Order) : Calm s (s.clearCutOf o) := by
  unfold clearCutOf
  split
  · exact calm_updTransition _
  · exact .refl

theorem moves_attemptFor (o : Order) : Moves b s (s.attemptFor o) := by
  unfold attemptFor
  split
  · exact moves_startAttempt
  · exact .refl

theorem moves_supersedeQueued : Moves b s (s.supersedeQueued u) :=
  (Moves.single (.depart _ List.filter_sublist)).trans
    (Calm.foldl (fun _ _ => (calm_updTransition _).trans (calm_originate _)) _ _).moves

theorem moves_expireOrder (k : Nat) : Moves b s (s.expireOrder k) := by
  unfold expireOrder
  split
  · exact .refl
  · split
    · exact ((Moves.single (.depart _ (List.eraseIdx_sublist _ _))).trans
        ((calm_clearCutOf _).trans (calm_originate _)).moves).trans (moves_attemptFor _)
    · exact .refl

theorem moves_withdrawOrders (leaves : Order → Bool) (r : Reason) : Moves b s (s.withdrawOrders leaves r) :=
  (Moves.single (.depart _ List.filter_sublist)).trans
    (Calm.foldl (fun _ o => (calm_clearCutOf o).trans (calm_originate _)) _ _).moves

theorem moves_withdrawAndAttempt (leaves : Order → Bool) (r : Reason) : Moves b s (s.withdrawAndAttempt leaves r) :=
  (moves_withdrawOrders leaves r).trans (Moves.foldl (fun _ _ => moves_startAttempt) _ _)

theorem moves_supersedeReserve : Moves b s (s.supersedeReserve u) := by
  unfold supersedeReserve
  split
  · exact .refl
  · exact (Moves.single (.unclaim u)).trans ((calm_updTransition _).trans (calm_originate _)).moves

/-! ## Claims that fail with their unit, trips and OUT (R12 to R19) -/

theorem moves_failQueued (keep : Option CutName) (r : Reason) : Moves b s (s.failQueued u keep r) :=
  (Moves.single (.depart _ List.filter_sublist)).trans (Calm.foldl (fun _ _ => calm_originate _) _ _).moves

theorem moves_failReserve (keep : Option CutName) (r : Reason) : Moves b s (s.failReserve u keep r) := by
  unfold failReserve
  split
  · exact .refl
  · split
    · exact .refl
    · exact (Moves.single (.unclaim u)).trans (calm_originate _).moves

theorem calm_reportTrip (d : Half) : Calm s (s.reportTrip u d) := (calm_originate _).trans (calm_dutyEvent _)

theorem moves_enterTripped (d : Half) : Moves b s (s.enterTripped u d) :=
  ((((calm_changeMode _).moves.trans (moves_endTransition _ _ _)).trans (moves_failQueued _ _)).trans
    (moves_failReserve _ _)).trans (calm_reportTrip d).moves

theorem moves_tripEvent (d : Half) : Moves b s (s.tripEvent u d) := by
  unfold tripEvent
  extract_lets s1
  have h1 : Moves b s s1 := (calm_updUnit ⟨rfl, rfl, rfl⟩).moves
  split
  · exact h1
  · exact h1.trans (calm_reportTrip d).moves
  · exact h1.trans (moves_enterTripped d)
  · exact h1.trans (moves_enterTripped d)

theorem moves_tripAndAttempt (d : Half) : Moves b s (s.tripAndAttempt u d) := by
  unfold tripAndAttempt
  extract_lets s1
  split
  · exact (moves_tripEvent d).trans moves_startAttempt
  · exact moves_tripEvent d

theorem moves_enterOut : Moves b s (s.enterOut u) := by
  unfold enterOut
  extract_lets s1 s2
  have h2 : Moves b s s2 :=
    (((calm_changeMode _).moves.trans (moves_endTransition _ _ _)).trans (moves_failQueued _ _)).trans
      (moves_failReserve _ _)
  split
  · exact h2.trans moves_startAttempt
  · exact h2

theorem moves_writeOutSource {f : UnitRecord → UnitRecord} (hf : OuterStep (s.unit u) (f (s.unit u))) :
    Moves b s (s.writeOutSource u f) := by
  unfold writeOutSource
  extract_lets s1
  have h1 : Moves b s s1 := (calm_updUnit hf).moves
  split
  · exact h1.trans moves_enterOut
  · exact h1.trans (calm_changeMode _).moves
  · exact h1
  · exact h1

/-! ## Reports (R6 to R9) -/

theorem calm_commonReport (rep : Report) : Calm s (s.commonReport u rep) := by
  have h2 : ∀ x : State, Calm x (x.endSilence u) := by
    intro x
    unfold endSilence
    split
    · exact (calm_updUnit ⟨rfl, rfl, rfl⟩).trans (calm_originate _)
    · exact .refl
  exact ((calm_updUnit ⟨rfl, rfl, rfl⟩).trans (h2 _)).trans (calm_updUnit ⟨rfl, rfl, rfl⟩)

theorem moves_reportAtRest (w : Word) : Moves b s (s.reportAtRest u w).1 := by
  unfold reportAtRest
  split
  · exact moves_tripEvent _
  · exact .refl
  · extract_lets old
    split
    · exact (calm_changeMode _).moves
    · split
      · exact .refl
      · exact ((calm_changeMode _).trans (calm_originate _)).moves

theorem moves_reportMoving (t : Transition) (w : Word) : Moves b s (s.reportMoving u t w).1 := by
  unfold reportMoving
  split
  · exact moves_tripEvent _
  · exact .refl
  · extract_lets p
    split
    · exact moves_completePhase
    · exact .refl

theorem moves_reportTripped (w : Word) : Moves b s (s.reportTripped u w).1 := by
  unfold reportTripped
  split
  · exact moves_tripEvent _
  · exact .refl
  · split
    · exact .refl
    · exact (calm_changeMode _).moves

theorem moves_reportByCondition (w : Word) : Moves b s (s.reportByCondition u w).1 := by
  unfold reportByCondition
  split
  · exact .refl
  · exact moves_reportTripped w
  · exact moves_reportAtRest w
  · split
    · exact moves_reportMoving _ w
    · exact moves_reportAtRest w

/-- A report is read: what it does, and then the end of a drain. -/
theorem readUnitReport_moves (rep : Report) : ∃ m, Moves b s m ∧ s.readUnitReport u rep = m.drainCheck := by
  have h : Moves b s ((s.commonReport u rep).reportByCondition u rep.statusWord).1 :=
    (calm_commonReport rep).moves.trans (moves_reportByCondition _)
  unfold readUnitReport
  extract_lets silenceEnded
  split
  next t attempt e =>
    rw [e] at h
    refine ⟨_, ?_, rfl⟩
    split
    · exact h.trans moves_startAttempt
    · exact h

end State
end Sys2Proof.Machine
end

section
/-!
PROOFS. What every command does to the parts that the invariants speak of: quiet changes, then one effect on claims, plan or
dispatcher, then quiet changes again.
-/

namespace Sys2Proof.Machine

/-! ## What the changes keep -/

theorem Quiet.frame {s t : State} (h : Quiet s t) :
    t.dispatcher = s.dispatcher ∧ t.plan = s.plan ∧ t.orders = s.orders ∧ t.ageCount = s.ageCount := by
  cases h with
  | same h => exact ⟨h.dispatcher, h.plan, h.orders, h.ageCount⟩
  | port p f _ =>
    exact ⟨State.updPort_dispatcher .., State.updPort_plan .., State.updPort_orders .., State.updPort_ageCount ..⟩
  | transition u f => exact ⟨rfl, rfl, rfl, rfl⟩
  | hold u x _ _ => exact ⟨rfl, rfl, rfl, rfl⟩

theorem Move.frame {b : Bool} {s t : State} (h : Move b s t) : t.dispatcher = s.dispatcher ∧ t.plan = s.plan := by
  cases h with
  | quiet h => exact ⟨h.frame.1, h.frame.2.1⟩
  | start u x _ => exact ⟨rfl, rfl⟩
  | finish u => exact ⟨rfl, rfl⟩
  | unclaim u => exact ⟨rfl, rfl⟩
  | depart l _ => exact ⟨rfl, rfl⟩
  | append a _ _ _ _ => exact ⟨rfl, rfl⟩
  | claim u c _ _ => exact ⟨rfl, rfl⟩

theorem Moves.frame {b : Bool} {s t : State} (h : Moves b s t) : t.dispatcher = s.dispatcher ∧ t.plan = s.plan := by
  induction h with
  | refl => exact ⟨rfl, rfl⟩
  | tail _ h ih => exact ⟨h.frame.1.trans ih.1, h.frame.2.trans ih.2⟩

theorem Moves.dispatcher {b : Bool} {s t : State} (h : Moves b s t) : t.dispatcher = s.dispatcher := h.frame.1

theorem Calm.dispatcher {s t : State} (h : Calm s t) : t.dispatcher = s.dispatcher := (h.moves (b := true)).dispatcher

theorem Calm.orders {s t : State} (h : Calm s t) : t.orders = s.orders := by
  induction h with
  | refl => rfl
  | tail _ h ih => exact h.frame.2.2.1.trans ih

/-- Where nothing comes in, orders only leave the queue. -/
theorem Move.orders_sublist {s t : State} (h : Move false s t) :
    t.orders.Sublist s.orders ∧ t.ageCount = s.ageCount := by
  cases h with
  | quiet h => exact ⟨h.frame.2.2.1 ▸ .refl _, h.frame.2.2.2⟩
  | depart l hl => exact ⟨hl, rfl⟩
  | append _ hb => cases hb
  | claim _ _ hb => cases hb
  | _ => exact ⟨.refl _, rfl⟩

theorem Moves.orders_sublist {s t : State} (h : Moves false s t) :
    t.orders.Sublist s.orders ∧ t.ageCount = s.ageCount := by
  induction h with
  | refl => exact ⟨.refl _, rfl⟩
  | tail _ h ih => exact ⟨h.orders_sublist.1.trans ih.1, h.orders_sublist.2.trans ih.2⟩

/-- The plan is committed and not being withdrawn (R117): orders are taken. -/
abbrev Planned (s : State) : Prop := s.dispatcher = .directed ∨ s.dispatcher = .autonomous

theorem Moves.planned {b : Bool} {s t : State} (h : Moves b s t) (hs : Planned s) : Planned t := by
  unfold Planned
  rwa [h.dispatcher]

theorem Moves.foldl_planned {b : Bool} {α : Type} {g : State → α → State} (hg : ∀ s x, Planned s → Moves b s (g s x))
    (l : List α) {s : State} (hs : Planned s) : Moves b s (l.foldl g s) := by
  induction l generalizing s with
  | nil => exact .refl
  | cons x l ih => exact (hg s x hs).trans (ih ((hg s x hs).planned hs))

namespace State

variable {s : State} {u : UnitNo}

/-! ## Orders and claims that come in (R45 to R48, R112, R113) -/

/-- Once the queued orders for a unit are superseded, none is left for it (R46). -/
theorem supersedeQueued_orders : (s.supersedeQueued u).orders = s.orders.filter fun o => !o.isFor u :=
  (Calm.foldl (fun _ _ => (calm_updTransition _).trans (calm_originate _)) _ _).orders

theorem moves_supersedeFor {b : Bool} (t : Target) : Moves b s (s.supersedeFor t) := by
  cases t with
  | unit u => exact moves_supersedeQueued
  | pool p => exact .refl

theorem supersedeFor_target {t : Target} (ht : t = .unit u) {o : Order} (ho : o ∈ (s.supersedeFor t).orders) :
    o.target ≠ .unit u := by
  subst ht
  rw [supersedeFor, supersedeQueued_orders, List.mem_filter] at ho
  simpa [Order.isFor] using ho.2

theorem moves_acceptArrival {a : Arrival} (hs : Planned s) (hl : s.orders.length < 16)
    (ha : ∀ u, a.target = .unit u → ∀ o ∈ s.orders, o.target ≠ .unit u) : Moves true s (s.acceptArrival a) := by
  unfold acceptArrival
  extract_lets s1 s2
  have h2 : Moves true s s2 := (Moves.single (.append a rfl hs hl ha)).trans (calm_originate _).moves
  split
  · exact h2.trans (moves_actOn _)
  · exact h2.trans moves_poolPass

theorem moves_queueOrder (a : Arrival) (hs : Planned s) : Moves true s (s.queueOrder a) := by
  unfold queueOrder
  split
  · exact (calm_originate _).moves
  · split
    · exact (calm_originate _).moves
    · extract_lets s1
      have h1 : Moves true s s1 := moves_supersedeFor _
      split
      · exact h1.trans (calm_originate _).moves
      · exact h1.trans (moves_acceptArrival (h1.planned hs) (by omega) fun _ ht _ ho => supersedeFor_target ht ho)

theorem moves_scheduleClaim (r : Byte) (row : Row) (hs : Planned s) : Moves true s (scheduleClaim r row s u) := by
  unfold scheduleClaim
  split
  · split
    · exact moves_queueOrder _ hs
    · exact .refl
  · exact .refl

theorem moves_scheduleClaims (r : Byte) (row : Row) (hs : Planned s) : Moves true s (s.scheduleClaims r row) :=
  Moves.foldl_planned (fun _ _ => moves_scheduleClaim r row) _ hs

theorem moves_judgeOrder (tag : Half) (o : OrderFields) (hs : Planned s) : Moves true s (s.judgeOrder tag o) := by
  unfold judgeOrder
  split
  · exact (calm_originate _).moves
  · split
    · exact (calm_originate _).moves
    · exact moves_queueOrder _ hs

theorem moves_formClaim (c : ReserveClaim) (hs : s.dispatcher ≠ .unplanned) : Moves true s (s.formClaim u c) := by
  have h : Moves true s ((s.supersedeReserve u).supersedeQueued u) := moves_supersedeReserve.trans moves_supersedeQueued
  exact h.trans (.single (.claim u c rfl (h.dispatcher ▸ hs)))

theorem moves_formClaims (cs : List (UnitNo × ReserveClaim)) (hs : s.dispatcher ≠ .unplanned) :
    Moves true s (s.formClaims cs) := by
  unfold formClaims
  induction cs generalizing s with
  | nil => exact .refl
  | cons x cs ih =>
    have h : Moves true s (s.formClaim x.1 x.2) := moves_formClaim x.2 hs
    exact h.trans (ih (h.dispatcher ▸ hs))

theorem moves_actOnClaims (cs : List (UnitNo × ReserveClaim)) : Moves true s (s.actOnClaims cs) :=
  Moves.foldl (fun _ _ => moves_actOn _) _ _

end State

/-! ## Effects -/

/-- A unit to which nothing is bound: no transition, no reserve claim, no held telegram. -/
def UnitRecord.Clean (r : UnitRecord) : Prop := r.transition = none ∧ r.reserveClaim = none ∧ r.holdQueue = []

/-- What a command does to claims, plan and dispatcher. -/
inductive Effect : State → State → Prop where
  /-- Nothing. -/
  | nothing {s} : Effect s s
  /-- Claims and transitions move, and where the dispatcher drains, something is left afterwards (R126). -/
  | moves {s t} : Moves true s t → ¬ (t.dispatcher = .draining ∧ t.nothingLeft = true) → Effect s t
  /-- A drain ends (R126). -/
  | drained {s t} : Moves true s t → t.dispatcher = .draining → t.nothingLeft = true →
      Effect s { t with dispatcher := .unplanned }
  /-- A queued order leaves (R58, R59). -/
  | leaves {s t} : s.orders ≠ [] → Moves true s t → Effect s t
  /-- With a plan, orders are taken, and the dispatcher may turn DIRECTED or AUTONOMOUS (R117). -/
  | turns {s t} (d : DispatcherState) : Planned s → d = .directed ∨ d = .autonomous →
      Moves true { s with dispatcher := d } t → Effect s t
  /-- UNCOMMIT with something left: a drain begins (R125). -/
  | drains {s t} : Planned s → Moves true { s with dispatcher := .draining } t → t.orders = [] →
      ¬ t.nothingLeft = true → Effect s t
  /-- UNCOMMIT with nothing left (R125). -/
  | uncommits {s t} : Planned s → Moves true { s with dispatcher := .draining } t → t.orders = [] →
      t.nothingLeft = true → Effect s { t with dispatcher := .unplanned }
  /-- COMMIT (R120). -/
  | commits {s} : s.dispatcher = .unplanned → Effect s { s with dispatcher := .directed }
  /-- A write of a plan table: each unit stays bound to what it was, or is clean (R119, R2). -/
  | rewrites {s v t} : s.dispatcher = .unplanned → v.dispatcher = .unplanned → v.orders = s.orders →
      v.plantPort = s.plantPort → v.unitPort = s.unitPort → (∀ u, v.unit u = s.unit u ∨ (v.unit u).Clean) →
      Moves true v t → Effect s t
  /-- A reset (R22, R170). -/
  | clears {s v t} : v.dispatcher = .unplanned → v.orders = [] → (∀ u, (v.unit u).Clean) →
      (s.PortsBounded → v.PortsBounded) → Moves true v t → Effect s t

/-- The whole of a command: quiet changes, one effect, quiet changes. -/
def Acts (s t : State) : Prop := ∃ s' t', Calm s s' ∧ Effect s' t' ∧ Calm t' t

theorem Effect.acts {s t : State} (h : Effect s t) : Acts s t := ⟨s, t, .refl, h, .refl⟩

theorem Calm.acts {s t : State} (h : Calm s t) : Acts s t := ⟨s, s, .refl, .nothing, h⟩

theorem Acts.calm {s t v : State} (h : Acts s t) (h' : Calm t v) : Acts s v :=
  match h with
  | ⟨s', t', hs, he, ht⟩ => ⟨s', t', hs, he, ht.trans h'⟩

theorem Calm.then {s t v : State} (h : Calm s t) (h' : Acts t v) : Acts s v :=
  match h' with
  | ⟨s', t', hs, he, ht⟩ => ⟨s', t', h.trans hs, he, ht⟩

/-- Moves from a state with a plan. -/
theorem Moves.acts_planned {s t : State} (hs : Planned s) (h : Moves true s t) : Acts s t :=
  (Effect.turns s.dispatcher hs hs h).acts

namespace State

variable {s : State} {u : UnitNo} {p : PortName}

/-- Two states that differ only in what no invariant speaks of. -/
theorem calm_stopProgram : Calm s s.stopProgram :=
  calm_fields

theorem calm_startMasterSilence : Calm s s.startMasterSilence :=
  calm_fields

/-- An event that may end a drain (R126). -/
theorem acts_drainCheck {t : State} (h : Moves true s t) : Acts s t.drainCheck := by
  unfold drainCheck
  split
  · next hd => exact (Effect.drained h hd.1 hd.2).acts.calm (calm_stopProgram.trans (calm_originate _))
  · next hd => exact (Effect.moves h hd).acts

/-! ## Orders, rows and the dispatcher (chapter 7) -/

theorem acts_beginRow (r : Byte) : Acts s (s.beginRow r) := by
  unfold beginRow
  extract_lets row s1
  have h1 : Calm s s1 := calm_fields
  split
  · next hd => exact h1.then (Moves.acts_planned (.inr hd) (moves_scheduleClaims r row (.inr hd)))
  · exact h1.acts

theorem acts_endRow : Acts s s.endRow := by
  unfold endRow
  split
  · exact Calm.then calm_fields (acts_beginRow _)
  · split
    · exact acts_beginRow _
    · split
      · exact acts_beginRow _
      · exact calm_stopProgram.acts

theorem moves_fallSilent : Moves true { s with dispatcher := .autonomous } s.fallSilent := by
  unfold fallSilent
  extract_lets s1 n s2 s3
  have h1 : Calm { s with dispatcher := .autonomous } s1 :=
    calm_fields
  have h3 : Moves true { s with dispatcher := .autonomous } s3 :=
    (h1.moves.trans (moves_withdrawAndAttempt _ _)).trans (calm_originate _).moves
  split
  · split
    · exact h3.trans (moves_scheduleClaims _ _ (.inr h3.dispatcher))
    · exact h3
  · exact h3

theorem moves_returnDirected : Moves true { s with dispatcher := .directed } s.returnDirected := by
  unfold returnDirected
  extract_lets s1 s2 n s3
  have h3 : Moves true s1 s3 := calm_startMasterSilence.moves.trans (moves_withdrawAndAttempt _ _)
  exact h3.trans (calm_originate _).moves

theorem acts_takeOrder (tag : Half) (payload : List Byte) : Acts s (s.takeOrder tag payload) := by
  unfold takeOrder
  split
  · exact (calm_originate _).acts
  · split
    · exact (calm_originate _).acts
    · exact (calm_originate _).acts
    · next hd => exact Moves.acts_planned (.inl hd) (moves_judgeOrder tag _ (.inl hd))
    · next hd =>
      have h : Moves true { s with dispatcher := .directed } s.returnDirected := moves_returnDirected
      exact (Effect.turns .directed (.inr hd) (.inl rfl)
        (h.trans (moves_judgeOrder tag _ (.inl h.dispatcher)))).acts

/-- Once every order is withdrawn the queue is empty, and a start attempt adds none. -/
theorem withdrawAll_orders (r : Reason) : (s.withdrawAndAttempt (fun _ => true) r).orders = [] := by
  have hw : (s.withdrawOrders (fun _ => true) r).orders = [] :=
    (Calm.foldl (fun _ o => (calm_clearCutOf o).trans (calm_originate _)) _ _).orders.trans (by simp)
  have ha : Moves false (s.withdrawOrders (fun _ => true) r) (s.withdrawAndAttempt (fun _ => true) r) :=
    Moves.foldl (fun _ _ => moves_startAttempt) _ _
  exact List.sublist_nil.mp (hw ▸ ha.orders_sublist.1)

theorem acts_withdrawPlan (hs : Planned s) : Acts s s.withdrawPlan := by
  unfold withdrawPlan
  extract_lets s1 s2
  have h2 : Moves true { s with dispatcher := .draining } s2 :=
    Moves.trans (t := s1) (Calm.moves calm_fields) (moves_withdrawAndAttempt _ _)
  have ho : s2.orders = [] := withdrawAll_orders _
  split
  · next hn => exact (Effect.uncommits hs h2 ho hn).acts.calm calm_stopProgram
  · next hn => exact (Effect.drains hs h2 ho hn).acts

/-! ## Writes of the plan tables (R118, R119) -/

/-- A write of a plan table that leaves the units. -/
theorem acts_rewrite (hs : s.dispatcher = .unplanned) (plan : PlanTables) : Acts s { s with plan := plan } :=
  (Effect.rewrites (v := { s with plan := plan }) hs hs rfl rfl rfl (fun _ => .inl rfl) .refl).acts

theorem unitAfterCount_same_or_clean (old new : Byte) :
    s.unitAfterCount old new u = s.unit u ∨ (s.unitAfterCount old new u).Clean := by
  unfold unitAfterCount
  extract_lets was is
  split
  · exact .inr ⟨rfl, rfl, rfl⟩
  · split
    · exact .inr ⟨rfl, rfl, rfl⟩
    · exact .inl rfl

theorem unit_applyCounts (e : Station) :
    (s.applyCounts e).unit u = s.unitAfterCount s.plan.station.unitCount e.unitCount u := by
  fin_cases u <;> rfl

theorem acts_writeStation (hs : s.dispatcher = .unplanned) (e : Station) : Acts s (s.writeStation e) :=
  (Effect.rewrites (v := s.applyCounts e) hs hs rfl rfl rfl
    (fun u => by rw [unit_applyCounts]; exact unitAfterCount_same_or_clean _ _)
    (Moves.foldl (fun _ _ => moves_tripEvent _) _ _)).acts

/-- An entry is written: a plan entry only in UNPLANNED. -/
theorem acts_storeEntry {t : Table} {i : Nat} {data : List Byte} {s' : State} (h : s.storeEntry t i data = some s')
    (hs : t.isPlan = true → s.dispatcher = .unplanned) : Acts s s' := by
  cases t with
  | plant =>
    simp only [storeEntry, writePlant] at h
    split at h
    · obtain ⟨e, -, rfl⟩ := Option.map_eq_some_iff.mp h
      exact acts_writeStation (hs rfl) e
    · split at h <;> obtain ⟨e, -, rfl⟩ := Option.map_eq_some_iff.mp h <;> exact acts_rewrite (hs rfl) _
  | route =>
    obtain ⟨e, -, rfl⟩ := Option.map_eq_some_iff.mp h
    exact acts_rewrite (hs rfl) _
  | phase =>
    obtain ⟨e, -, rfl⟩ := Option.map_eq_some_iff.mp h
    exact acts_rewrite (hs rfl) _
  | recognition =>
    obtain ⟨e, -, rfl⟩ := Option.map_eq_some_iff.mp h
    exact acts_rewrite (hs rfl) _
  | pool =>
    obtain ⟨e, -, rfl⟩ := Option.map_eq_some_iff.mp h
    exact acts_rewrite (hs rfl) _
  | reserve =>
    obtain ⟨e, -, rfl⟩ := Option.map_eq_some_iff.mp h
    exact acts_rewrite (hs rfl) _
  | matching =>
    obtain ⟨e, -, rfl⟩ := Option.map_eq_some_iff.mp h
    exact Calm.acts calm_fields
  | guard =>
    obtain ⟨e, -, rfl⟩ := Option.map_eq_some_iff.mp h
    exact Calm.acts calm_fields
  | schedule =>
    obtain ⟨e, -, rfl⟩ := Option.map_eq_some_iff.mp h
    exact Calm.acts calm_fields
  | counterControl =>
    simp only [storeEntry] at h
    split at h
    · obtain ⟨e, -, rfl⟩ := Option.map_eq_some_iff.mp h
      exact (calm_updDuty _).acts
    · cases h
  | counterValues =>
    simp only [storeEntry] at h
    split at h
    · obtain ⟨e, -, rfl⟩ := Option.map_eq_some_iff.mp h
      exact (calm_updDuty _).acts
    · cases h
  | unitRecords | orderQueue | transitions | resources | portCounters => cases h

/-! ## Resets (R22, R158, R170) -/

theorem moves_sampleTrips (us : List UnitNo) (lines : Lines) : Moves true s (s.sampleTrips us lines) :=
  Moves.foldl (fun _ _ => moves_tripEvent _) _ _

theorem softUnitRecord_clean (lines : Lines) : (s.softUnitRecord lines u).Clean := by
  unfold softUnitRecord
  split <;> exact ⟨rfl, rfl, rfl⟩

theorem unit_softValues (lines : Lines) : (s.softValues lines).unit u = s.softUnitRecord lines u := by
  fin_cases u <;> rfl

theorem softReset_bounded {q : PortState} (h : q.Bounded) : q.softReset.Bounded :=
  ⟨Nat.zero_le _, Nat.zero_le _, fun hl => ⟨rfl, rfl, by
    show Option.map _ q.transmitting = none
    rw [(h.2.2 hl).2.2]
    rfl⟩⟩

theorem acts_softResetEvent (lines : Lines) : Acts s (s.softResetEvent lines) :=
  (Effect.clears (v := s.softValues lines) rfl rfl
    (fun u => by rw [unit_softValues]; exact softUnitRecord_clean lines)
    (fun h => ⟨softReset_bounded h.1, softReset_bounded h.2⟩) (moves_sampleTrips _ _)).acts

theorem powerOn_bounded (now : Time) (linkOk : Bool) : (PortState.powerOn now linkOk).Bounded :=
  ⟨Nat.zero_le _, Nat.zero_le _, fun _ => ⟨rfl, rfl, rfl⟩⟩

theorem unit_powerOn (now : Time) (lines : Lines) (plantOk unitOk : Bool) :
    (State.powerOn now lines plantOk unitOk).unit u = UnitRecord.afterPowerOn now lines u := by
  fin_cases u <;> rfl

theorem acts_powerOnEvent (lines : Lines) (plantOk unitOk : Bool) : Acts s (s.powerOnEvent lines plantOk unitOk) :=
  (Effect.clears
    (v := { State.powerOn s.now lines plantOk unitOk with
      pending := s.pending, freeCount := s.freeCount, requestSerial := s.requestSerial })
    rfl rfl
    (fun u => (unit_powerOn s.now lines plantOk unitOk (u := u) ▸ ⟨rfl, rfl, rfl⟩ :
      ((State.powerOn s.now lines plantOk unitOk).unit u).Clean))
    (fun _ => ⟨powerOn_bounded _ _, powerOn_bounded _ _⟩) (moves_sampleTrips _ _)).acts

/-! ## Ports (chapter 9) -/

theorem acts_answerGone (ts : List Telegram) : Acts s (s.answerGone p ts) := by
  unfold answerGone
  split
  · exact acts_softResetEvent _
  · exact Calm.refl.acts

theorem calm_startTransmission : Calm s (s.startTransmission p) := by
  unfold startTransmission
  split
  · next hm =>
    have hl : (s.port p).link = true := by
      simp only [mayTransmit, Bool.and_eq_true] at hm
      exact hm.1
    split
    · next t rest _ ho =>
      unfold beginTransmission
      refine calm_updPort fun ⟨h1, h2, _⟩ => ⟨?_, h2, fun h => absurd (h.symm.trans hl) Bool.false_ne_true⟩
      rw [ho, List.length_cons] at h1
      exact Nat.le_of_succ_le h1
    · next t rest _ hf =>
      unfold beginTransmission
      refine calm_updPort fun ⟨h1, h2, _⟩ => ⟨h1, ?_, fun h => absurd (h.symm.trans hl) Bool.false_ne_true⟩
      rw [hf, List.length_cons] at h2
      exact Nat.le_of_succ_le h2
    · exact .refl
  · exact .refl

theorem acts_endTransmission : Acts s (s.endTransmission p) := by
  unfold endTransmission
  split
  · exact Calm.refl.acts
  · extract_lets s1 s2
    have h1 : Calm s s1 := calm_updPort fun ⟨ho, hf, hd⟩ => ⟨ho, hf, fun hl => ⟨(hd hl).1, (hd hl).2.1, rfl⟩⟩
    have h2 : Calm s s2 := by
      unfold s2
      split
      · exact h1.trans (calm_updCounters _)
      · exact h1
    exact h2.then (acts_answerGone _)

theorem updPort_updPort (f g : PortState → PortState) : (s.updPort p f).updPort p g = s.updPort p fun q => g (f q) := by
  cases p <;> rfl

theorem acts_linkFalls : Acts s (s.linkFalls p) := by
  unfold linkFalls
  extract_lets lost s1
  split
  · next hlost =>
    refine (calm_updPort fun ⟨ho, hf, hd⟩ => ⟨ho, hf, fun _ => ?_⟩).acts
    cases hl : (s.port p).link with
    | false => exact hd hl
    | true =>
      simp only [lost, hl, if_true, lostTelegrams, List.append_eq_nil_iff, Option.toList_eq_nil_iff,
        Option.map_eq_none_iff] at hlost
      exact ⟨hlost.1.2, hlost.2, hlost.1.1⟩
  · have h : Calm s (s1.updPort p fun q => { q with originated := [], forwarded := [], transmitting := none }) := by
      unfold s1
      rw [updPort_updPort]
      exact calm_updPort fun _ => ⟨Nat.zero_le _, Nat.zero_le _, fun _ => ⟨rfl, rfl, rfl⟩⟩
    exact (h.trans (calm_updCounters _)).then (acts_answerGone _)

theorem calm_answerLeaves : Calm s s.answerLeaves :=
  calm_updPort fun ⟨ho, hf, hd⟩ => ⟨ho, hf, fun hl => ⟨(hd hl).1, (hd hl).2.1, by
    show Option.filter _ s.plantPort.transmitting = none
    rw [show s.plantPort.transmitting = none from (hd hl).2.2]
    rfl⟩⟩

/-! ## Requests (chapter 10) -/

theorem calm_clearLatches : Calm s s.clearLatches := by
  unfold clearLatches
  extract_lets s1 s2 s3 s4
  have h1 : Calm s s1 := Calm.foldl (fun _ _ => calm_updUnit ⟨rfl, rfl, rfl⟩) _ _
  have h2 : Calm s1 s2 := Calm.foldl (fun _ _ => calm_updWaterway _ _) _ _
  have h4 : Calm s2 s4 := (calm_updReserveLine _ _).trans (calm_updReserveLine _ _)
  exact ((h1.trans h2).trans h4).trans
    (calm_fields)

theorem acts_writeTable (r : Request) : Acts s (s.writeTable r).1 := by
  unfold writeTable
  split
  · exact Calm.refl.acts
  · next t _ =>
    split
    · exact Calm.refl.acts
    · split
      · exact Calm.refl.acts
      · next hlock =>
        split
        · exact Calm.refl.acts
        · split
          · exact Calm.refl.acts
          · next h => exact acts_storeEntry h fun hp => by simpa [hp] using hlock

theorem acts_commit (r : Request) : Acts s (s.commit r).1 := by
  unfold commit
  split
  · exact Calm.refl.acts
  · split
    · exact Calm.refl.acts
    · next hd =>
      split
      · exact Calm.refl.acts
      · exact (Effect.commits (not_not.mp hd)).acts.calm calm_startMasterSilence

theorem acts_uncommit (r : Request) : Acts s (s.uncommit r).1 := by
  unfold uncommit
  split
  · exact Calm.refl.acts
  · split
    · next hd => exact acts_withdrawPlan hd
    · exact Calm.refl.acts

theorem acts_setOut (r : Request) : Acts s (s.setOut r).1 := by
  unfold setOut
  split
  · exact Calm.refl.acts
  · split
    · split
      · exact Calm.refl.acts
      · split
        · exact Calm.refl.acts
        · exact acts_drainCheck (moves_writeOutSource ⟨rfl, rfl, rfl⟩)
    · exact Calm.refl.acts

theorem acts_forceMode (r : Request) : Acts s (s.forceMode r).1 := by
  unfold forceMode
  split
  · exact Calm.refl.acts
  · split
    · split
      · exact Calm.refl.acts
      · split
        · exact acts_drainCheck ((calm_changeMode _).moves.trans moves_startAttempt)
        · exact Calm.refl.acts
    · exact Calm.refl.acts

theorem acts_purgeOrder (r : Request) : Acts s (s.purgeOrder r).1 := by
  unfold purgeOrder
  split
  · exact Calm.refl.acts
  · extract_lets gone
    split
    · exact Calm.refl.acts
    · next hg =>
      refine (Effect.leaves ?_ ((moves_withdrawOrders _ _).trans (Moves.foldl (fun _ o => moves_attemptFor o) _ _))).acts
      intro ho
      exact hg (by simp [gone, ho])

theorem acts_programStart (r : Request) : Acts s (s.programStart r).1 := by
  unfold programStart
  split
  · exact Calm.refl.acts
  · split
    · exact Calm.refl.acts
    · split
      · exact Calm.refl.acts
      · exact Calm.then (t := { s with program := _ }) calm_fields (acts_beginRow _)

theorem calm_programRenew (r : Request) : Calm s (s.programRenew r).1 := by
  unfold programRenew
  split
  · exact .refl
  · split
    · exact .refl
    · split
      · exact .refl
      · exact calm_fields

theorem calm_counterWrite (r : Request) : Calm s (s.counterWrite r).1 := by
  unfold counterWrite
  split
  · split
    · exact .refl
    · dsimp only
      exact calm_updDuty _
  · exact .refl

theorem calm_freezeAction (x : Bool) (i : Half) : Calm s (s.freezeAction x i).1 := by
  unfold freezeAction
  split
  · dsimp only
    exact calm_updDuty _
  · exact .refl

theorem calm_counterControl (r : Request) : Calm s (s.counterControl r).1 := by
  unfold counterControl
  split
  · split
    · exact calm_fields
    · split
      · exact calm_fields
      · split
        · exact calm_freezeAction _ _
        · split
          · exact calm_freezeAction _ _
          · split
            · unfold clearAction
              split
              · dsimp only
                exact calm_updDuty _
              · split
                · exact Calm.foldl (fun _ _ => calm_updDuty _) _ _
                · exact .refl
            · exact .refl
  · exact .refl

theorem acts_handle (code : Byte) (r : Request) : Acts s (s.handle code r).1 := by
  have calmIdentify : Calm s (s.identify r).1 := by unfold identify; split <;> exact .refl
  have calmStatus : Calm s (s.status r).1 := by
    unfold status
    split
    · exact .refl
    · split
      · exact .refl
      · dsimp only
        split
        · exact calm_clearLatches
        · exact .refl
  have calmRead : Calm s (s.readTable r).1 := by
    unfold readTable
    split
    · exact .refl
    · split
      · exact .refl
      · split
        · split
          · exact .refl
          · exact calm_fields
        · exact .refl
  have calmStop : Calm s (s.programStop r).1 := by
    unfold programStop
    split
    · exact .refl
    · exact calm_stopProgram
  have calmReadClear : Calm s (s.readClear r).1 := by
    unfold readClear
    split
    · exact .refl
    · split
      · exact .refl
      · unfold readClearPort
        dsimp only
        exact calm_updCounters _
  unfold handle
  split
  · exact calmIdentify.acts
  · exact calmStatus.acts
  · exact calmRead.acts
  · exact acts_writeTable r
  · exact acts_commit r
  · exact acts_uncommit r
  · exact acts_setOut r
  · exact acts_forceMode r
  · exact acts_purgeOrder r
  · exact acts_programStart r
  · exact (calm_programRenew r).acts
  · exact calmStop.acts
  · exact (calm_counterWrite r).acts
  · exact (calm_counterControl r).acts
  · exact calmReadClear.acts
  · exact Calm.refl.acts

theorem acts_respond (tag : Half) (payload : List Byte) : Acts s (s.respond tag payload) := by
  unfold respond
  split
  · exact Calm.refl.acts
  · split
    · unfold respondTo
      split
      · unfold resetRequest
        split
        · exact (calm_originate _).acts
        · split
          · exact Calm.acts ((calm_originate _).trans calm_fields)
          · exact (calm_originate _).then (acts_softResetEvent _)
      · exact (acts_handle _ _).calm (calm_originate _)
    · exact (calm_originate _).acts
    · exact (calm_originate _).acts

/-! ## Arrivals (R135, R150) -/

theorem acts_takeUnitReport (t : Telegram) : Acts s (s.takeUnitReport t) := by
  unfold takeUnitReport
  split
  · next u rep _ _ =>
    obtain ⟨m, hm, he⟩ := readUnitReport_moves (s := s) (u := u) (b := true) rep
    rw [he]
    exact acts_drainCheck hm
  · exact Calm.refl.acts
  · exact Calm.refl.acts

theorem calm_raiseAlarm (w : WaterwayNo) (d : Half) : Calm s (s.raiseAlarm w d) :=
  (calm_updWaterway _ _).trans (calm_originate _)

theorem calm_takeWaterwayReport (t : Telegram) : Calm s (s.takeWaterwayReport t) := by
  unfold takeWaterwayReport
  split
  · unfold readWaterwayReport
    extract_lets s1
    have h1 : Calm s s1 := calm_updWaterway _ _
    split
    · exact h1
    · exact h1.trans (calm_raiseAlarm _ _)
    · exact h1
    · exact h1.trans (((calm_updWaterway _ _).trans (calm_originate _)).trans (calm_serveWindow _))
  · exact .refl

theorem acts_routeTelegram (t : Telegram) : Acts s (s.routeTelegram p t) := by
  unfold routeTelegram
  split
  · exact acts_takeOrder _ _
  · exact acts_respond _ _
  · exact (acts_takeUnitReport t).calm (calm_forwardTo t)
  · exact ((calm_takeWaterwayReport t).trans (calm_forwardTo t)).acts
  · exact (calm_judge t).acts
  · exact (calm_updCounters _).acts

theorem acts_takeTelegram (t : Telegram) : Acts s (s.takeTelegram p t) := by
  unfold takeTelegram
  split
  · exact Calm.refl.acts
  · split
    · exact (calm_updCounters _).acts
    · refine Calm.then ((show Calm s (s.countReceivedGood p) from calm_updCounters _).trans ?_) (acts_routeTelegram t)
      unfold reportMaster masterHeard
      split
      · split
        · exact calm_startMasterSilence
        · exact .refl
      · exact .refl

theorem acts_takeFrame (bytes : List Byte) : Acts s (s.takeFrame p bytes) := by
  unfold takeFrame
  split
  · exact Calm.refl.acts
  · split
    · exact (calm_updCounters _).acts
    · exact (calm_updCounters _).acts
    · exact acts_takeTelegram _

/-! ## Lines and deadlines -/

theorem acts_tripInputSet : Acts s (s.tripInputSet u) := by
  unfold tripInputSet
  extract_lets was s1
  have h1 : Calm s s1 :=
    (calm_fields :
      Calm s (s.setTripLine u true)).trans (calm_updUnit ⟨rfl, rfl, rfl⟩)
  split
  · exact acts_drainCheck (h1.moves.trans (moves_tripAndAttempt 0))
  · exact h1.acts

theorem calm_tripInputClear : Calm s (s.tripInputClear u) :=
  (calm_fields :
    Calm s (s.setTripLine u false)).trans (calm_updUnit ⟨rfl, rfl, rfl⟩)

theorem acts_outInputTakes (level : Bool) : Acts s (s.outInputTakes u level) := by
  unfold outInputTakes
  extract_lets s1
  have h1 : Calm s s1 := calm_fields
  split
  · exact acts_drainCheck
      ((h1.trans (calm_updUnit ⟨rfl, rfl, rfl⟩)).moves.trans (moves_writeOutSource ⟨rfl, rfl, rfl⟩))
  · exact h1.acts

theorem calm_setReserveLine (l : ReserveLine) (level : Bool) : Calm s (s.setReserveLine l level) := by
  cases l <;> exact calm_fields

theorem acts_assertLine (l : ReserveLine) : Acts s (s.assertLine l) := by
  unfold assertLine
  split
  · exact (calm_originate _).acts
  · next hd =>
    extract_lets cs
    exact acts_drainCheck
      (((moves_formClaims cs hd).trans (calm_originate _).moves).trans (moves_actOnClaims cs))

theorem acts_lineAsserts (l : ReserveLine) : Acts s (s.lineAsserts l) := by
  unfold lineAsserts
  extract_lets was s1
  have h1 : Calm s s1 := (calm_setReserveLine _ _).trans (calm_updReserveLine _ _)
  split
  · exact h1.acts
  · exact (h1.trans (calm_updReserveLine _ _)).then (acts_assertLine l)

theorem acts_expireOrder (k : Nat) : Acts s (s.expireOrder k) := by
  by_cases ho : s.orders = []
  · have h : s.expireOrder k = s := by simp [expireOrder, ho]
    rw [h]
    exact Calm.refl.acts
  · exact (Effect.leaves ho (moves_expireOrder k)).acts

theorem acts_phaseExpires : Acts s (s.phaseExpires u) := by
  unfold phaseExpires
  split
  · exact Calm.refl.acts
  · split
    · exact (calm_retryPhase _).acts
    · exact acts_drainCheck ((moves_timeoutPhase _).trans moves_startAttempt)

theorem acts_waitExpires : Acts s (s.waitExpires u) :=
  acts_drainCheck ((moves_endTransition _ _ _).trans moves_startAttempt)

theorem acts_whenDue {due : Bool} {f : State → State} (h : due = true → Acts s (f s)) : Acts s (s.whenDue due f) := by
  unfold whenDue
  split
  · next hd => exact h hd
  · exact Calm.refl.acts

theorem calm_countSecond (n : CounterNo) : Calm s (s.countSecond u n) :=
  (Calm.foldl (fun _ _ => calm_updDuty _) _ _).trans (calm_countAll _)

theorem calm_tick : Calm s s.tick := by
  have hm : ∀ (x : State) (u : UnitNo) (n : CounterNo), Calm x (x.measure u n) := by
    intro x u n
    unfold measure
    split
    · exact calm_updDuty _
    · exact .refl
  have hall : ∀ x : State, Calm x x.measureAll := fun x =>
    Calm.foldl (fun _ u => Calm.foldl (fun y n => hm y u n) _ _) _ _
  have hp : ∀ x : State, Calm x x.passTime := fun x => (hall x).trans (Calm.foldl (fun _ _ => calm_countAll _) _ _)
  exact Calm.trans (t := { s with now := s.now + 1 }) calm_fields (hp _)

end State

/-! ## Every command, and every step -/

theorem exec_acts (c : Instr) (s : State) : ∃ t, exec c s = .next t ∧ Acts s t := by
  cases c with
  | powerOnReset lines p u => exact ⟨_, rfl, State.acts_powerOnEvent lines p u⟩
  | softReset lines =>
    refine ⟨_, rfl, ?_⟩
    split
    · exact State.calm_answerLeaves.then (State.acts_softResetEvent lines)
    · exact Calm.refl.acts
  | linkUp p =>
    exact ⟨_, rfl, (State.calm_updPort fun ⟨ho, hf, _⟩ => ⟨ho, hf, fun hl => nomatch hl⟩).acts⟩
  | linkDown p => exact ⟨_, rfl, State.acts_linkFalls⟩
  | frameDiscarded p bytes => exact ⟨_, rfl, State.acts_takeFrame bytes⟩
  | transmitStart p => exact ⟨_, rfl, State.calm_startTransmission.acts⟩
  | transmissionEnd p => exact ⟨_, rfl, State.acts_endTransmission⟩
  | tripLineAsserted u => exact ⟨_, rfl, State.acts_tripInputSet⟩
  | tripLineCleared u => exact ⟨_, rfl, State.calm_tripInputClear.acts⟩
  | outInputSet u => exact ⟨_, rfl, State.acts_outInputTakes true⟩
  | outInputClear u => exact ⟨_, rfl, State.acts_outInputTakes false⟩
  | assertionEvent l => exact ⟨_, rfl, State.acts_lineAsserts l⟩
  | reserveRelease l =>
    exact ⟨_, rfl, ((State.calm_setReserveLine l false).trans (State.calm_updReserveLine _ _)).acts⟩
  | unitSilenceExpiry u =>
    exact ⟨_, rfl, State.acts_whenDue fun _ =>
      ((State.calm_updUnit ⟨rfl, rfl, rfl⟩).trans (State.calm_originate _)).acts⟩
  | waterwaySilenceExpiry w =>
    refine ⟨_, rfl, State.acts_whenDue fun _ => ?_⟩
    unfold State.waterwayFallsSilent
    extract_lets s1
    have h1 : Calm s s1 := State.calm_updWaterway _ _
    split
    · exact h1.acts
    · exact (h1.trans (State.calm_raiseAlarm _ _)).acts
  | masterSilenceExpiry =>
    refine ⟨_, rfl, State.acts_whenDue fun hd => ?_⟩
    simp only [State.masterDue, Bool.and_eq_true, decide_eq_true_eq] at hd
    exact (Effect.turns .autonomous (.inl hd.1) (.inr rfl) State.moves_fallSilent).acts
  | phaseDeadlineExpiry u => exact ⟨_, rfl, State.acts_whenDue fun _ => State.acts_phaseExpires⟩
  | waitDeadlineExpiry u => exact ⟨_, rfl, State.acts_whenDue fun _ => State.acts_waitExpires⟩
  | settleDeadlineReached w =>
    exact ⟨_, rfl, State.acts_whenDue fun _ => ((State.calm_updWaterway _ _).trans (State.calm_serveWindow w)).acts⟩
  | orderExpiry k => exact ⟨_, rfl, State.acts_expireOrder k.val⟩
  | rowDeadlineReached => exact ⟨_, rfl, State.acts_whenDue fun _ => State.acts_endRow⟩
  | dutySecond u n => exact ⟨_, rfl, State.acts_whenDue fun _ => (State.calm_countSecond n).acts⟩
  | _ => exact ⟨_, rfl, State.acts_takeTelegram _⟩

/-- What a step does to the parts that the invariants speak of. -/
theorem step_acts {s t : State} (h : step s = .next t) : Acts s t := by
  have hexec : ∀ {c : Instr} {x : State}, exec c x = .next t → Acts x t := by
    intro c x hx
    obtain ⟨t', he, ha⟩ := exec_acts c x
    obtain rfl : t' = t := by rw [he] at hx; exact Host.Outcome.next.inj hx
    exact ha
  unfold step at h
  split at h
  · next c rest _ =>
    exact Calm.then (t := { s with pending := rest }) State.calm_fields (hexec h)
  · unfold State.idle at h
    split at h
    · exact hexec h
    · obtain rfl := Host.Outcome.next.inj h
      exact State.calm_tick.acts

end Sys2Proof.Machine
end

section
/-!
PROOFS. The invariants of the block: each is read off the changes that a step can make (R41, R117, R119, R126, R144, R152,
R155).
-/

namespace Sys2Proof.Machine

/-! ## A property that every change keeps -/

/-- A property that no change of claims breaks, and that does not speak of the dispatcher, holds after every step: it
needs to survive a write of the station entry and a reset besides. -/
theorem step_keeps {I : State → Prop} (hmove : ∀ {s t}, Move true s t → I s → I t)
    (hdispatcher : ∀ s d, I s → I { s with dispatcher := d })
    (hrewrite : ∀ s v : State, v.orders = s.orders → v.plantPort = s.plantPort → v.unitPort = s.unitPort →
      (∀ u, v.unit u = s.unit u ∨ (v.unit u).Clean) → I s → I v)
    (hclear : ∀ s v : State, v.orders = [] → (∀ u, (v.unit u).Clean) → (s.PortsBounded → v.PortsBounded) → I s → I v)
    {s t : State} (hs : I s) (h : step s = .next t) : I t := by
  have moves : ∀ {a b}, Moves true a b → I a → I b := by
    intro a b hab ha
    induction hab with
    | refl => exact ha
    | tail _ h ih => exact hmove h ih
  obtain ⟨s', t', hss, he, htt⟩ := step_acts h
  have hs' : I s' := moves hss.moves hs
  refine moves htt.moves ?_
  cases he with
  | nothing => exact hs'
  | moves h _ => exact moves h hs'
  | drained h _ _ => exact hdispatcher _ _ (moves h hs')
  | leaves _ h => exact moves h hs'
  | turns d _ _ h => exact moves h (hdispatcher _ d hs')
  | drains _ h _ _ => exact moves h (hdispatcher _ _ hs')
  | uncommits _ h _ _ => exact hdispatcher _ _ (moves h (hdispatcher _ _ hs'))
  | commits _ => exact hdispatcher _ _ hs'
  | rewrites _ _ ho hp hu hclean h => exact moves h (hrewrite _ _ ho hp hu hclean hs')
  | clears _ ho hclean hports h => exact moves h (hclear _ _ ho hclean hports hs')

/-! ## Ports -/

theorem Quiet.portsBounded {s t : State} (h : Quiet s t) (hs : s.PortsBounded) : t.PortsBounded := by
  cases h with
  | same h =>
    unfold State.PortsBounded
    rwa [h.plantPort, h.unitPort]
  | port p f hf =>
    cases p with
    | plant => exact ⟨hf hs.1, hs.2⟩
    | unit => exact ⟨hs.1, hf hs.2⟩
  | transition u f => exact hs
  | hold u x _ _ => exact hs

theorem Move.portsBounded {b : Bool} {s t : State} (h : Move b s t) (hs : s.PortsBounded) : t.PortsBounded := by
  cases h with
  | quiet h => exact h.portsBounded hs
  | _ => exact hs

/-- Settles O55: every change of a port keeps its bounds, and a reset empties its queues. -/
theorem portsStayBounded : Obligations.PortsStayBounded :=
  fun _ _ hs h => step_keeps (I := State.PortsBounded) Move.portsBounded (fun _ _ hs => hs)
    (fun s v _ hp hu _ hs => by unfold State.PortsBounded; rwa [hp, hu]) (fun _ _ _ _ hports hs => hports hs) hs h

/-! ## The order queue -/

theorem unit?_eq_some {o : Order} {u : UnitNo} : o.unit? = some u ↔ o.target = .unit u := by
  cases h : o.target <;> simp [Order.unit?, h]

/-- An order that comes in is the only one for its unit (R41, R46). -/
theorem orderQueueSound_append {s : State} {a : State.Arrival} (hs : s.OrderQueueSound) (hl : s.orders.length < 16)
    (ha : ∀ u, a.target = .unit u → ∀ o ∈ s.orders, o.target ≠ .unit u) : (s.appendOrder a).OrderQueueSound := by
  refine ⟨?_, ?_⟩
  · simp only [State.appendOrder, List.length_append, List.length_singleton]
    omega
  · simp only [State.appendOrder, List.filterMap_append]
    refine hs.2.append (by cases h : (State.orderRecord a s.ageCount).unit? <;> simp [h]) ?_
    intro u hu hu'
    obtain ⟨o, ho, hou⟩ := List.mem_filterMap.mp hu
    obtain ⟨o', ho', hou'⟩ := List.mem_filterMap.mp hu'
    rw [List.mem_singleton] at ho'
    subst ho'
    exact ha u (unit?_eq_some.mp hou') o ho (unit?_eq_some.mp hou)

theorem Move.orderQueueSound {b : Bool} {s t : State} (h : Move b s t) (hs : s.OrderQueueSound) :
    t.OrderQueueSound := by
  cases h with
  | quiet h =>
    unfold State.OrderQueueSound
    rwa [h.frame.2.2.1]
  | depart l hl => exact ⟨hl.length_le.trans hs.1, hs.2.sublist (hl.filterMap _)⟩
  | append a _ _ hl ha => exact orderQueueSound_append hs hl ha
  | _ => exact hs

/-- Settles O56: orders only leave, but for one that is appended to a queue with room and no other order for its unit. -/
theorem orderQueueStaysSound : Obligations.OrderQueueStaysSound :=
  fun _ _ hs h => step_keeps (I := State.OrderQueueSound) Move.orderQueueSound (fun _ _ hs => hs)
    (fun s v ho _ _ _ hs => by unfold State.OrderQueueSound; rwa [ho])
    (fun _ v ho _ _ _ => by unfold State.OrderQueueSound; simp [ho]) hs h

/-! ## Hold queues -/

/-- The bounds of one unit's hold queue (R144). -/
def UnitRecord.HoldSound (r : UnitRecord) : Prop :=
  r.holdQueue.length ≤ 4 ∧ (r.transition = none → r.holdQueue = [])

theorem UnitRecord.Clean.holdSound {r : UnitRecord} (h : r.Clean) : r.HoldSound := by
  obtain ⟨_, _, hq⟩ := h
  exact ⟨by simp [hq], fun _ => hq⟩

/-- A change of one unit's record needs to be looked at for that unit only. -/
theorem holdSound_updUnit {s : State} {u : UnitNo} {f : UnitRecord → UnitRecord} (hs : s.HoldQueuesSound)
    (hf : (s.unit u).HoldSound → (f (s.unit u)).HoldSound) : (s.updUnit u f).HoldQueuesSound := by
  intro v
  rw [State.unit_updUnit]
  split
  · next h =>
    subst h
    exact hf (hs v)
  · exact hs v

theorem Quiet.holdQueuesSound {s t : State} (h : Quiet s t) (hs : s.HoldQueuesSound) : t.HoldQueuesSound := by
  cases h with
  | same h =>
    intro u
    rw [h.holdQueue u, h.transition u]
    exact hs u
  | port p f _ =>
    intro u
    rw [State.unit_updPort]
    exact hs u
  | transition u f => exact holdSound_updUnit hs fun h => ⟨h.1, fun ht => h.2 (Option.map_eq_none_iff.mp ht)⟩
  | hold u x ht hl =>
    refine holdSound_updUnit hs fun h => ⟨?_, fun hn => absurd hn ht⟩
    show ((s.unit u).holdQueue ++ [x]).length ≤ 4
    rw [List.length_append, List.length_singleton]
    omega

theorem Move.holdQueuesSound {b : Bool} {s t : State} (h : Move b s t) (hs : s.HoldQueuesSound) :
    t.HoldQueuesSound := by
  cases h with
  | quiet h => exact h.holdQueuesSound hs
  | start u x _ => exact holdSound_updUnit hs fun h => ⟨h.1, fun hn => nomatch hn⟩
  | finish u => exact holdSound_updUnit hs fun _ => ⟨Nat.zero_le _, fun _ => rfl⟩
  | unclaim u => exact holdSound_updUnit hs fun h => h
  | claim u c _ _ => exact holdSound_updUnit hs fun h => h
  | depart l _ => exact hs
  | append a _ _ _ _ => exact hs

/-- Settles O57: a telegram is held only for a moving unit with room for it, and the end of a transition empties the
unit's queue. -/
theorem holdQueuesStaySound : Obligations.HoldQueuesStaySound :=
  fun _ _ hs h => step_keeps (I := State.HoldQueuesSound) Move.holdQueuesSound (fun _ _ hs => hs)
    (fun _ _ _ _ _ hu hs u => (hu u).elim (fun h => h ▸ hs u) fun h => h.holdSound)
    (fun _ _ _ hu _ _ u => (hu u).holdSound) hs h

/-! ## The dispatcher state -/

/-- Nothing is queued, in flight or pending. -/
def State.Idle (s : State) : Prop :=
  s.orders = [] ∧ ∀ u : UnitNo, (s.unit u).transition = none ∧ (s.unit u).reserveClaim = none

theorem nothingLeft_iff {s : State} :
    s.nothingLeft = true ↔ ∀ u : UnitNo, (s.unit u).transition = none ∧ (s.unit u).reserveClaim = none := by
  simp [State.nothingLeft, List.all_eq_true, mem_unitNumbers]

theorem not_nothingLeft {s : State} (h : ¬ s.nothingLeft = true) :
    ∃ u : UnitNo, (s.unit u).transition ≠ none ∨ (s.unit u).reserveClaim ≠ none := by
  rw [nothingLeft_iff, not_forall] at h
  obtain ⟨u, hu⟩ := h
  exact ⟨u, not_and_or.mp hu⟩

/-- A quiet change starts and ends nothing. -/
theorem Quiet.waiting {s t : State} (h : Quiet s t) (u : UnitNo) :
    ((t.unit u).transition = none ↔ (s.unit u).transition = none) ∧
      (t.unit u).reserveClaim = (s.unit u).reserveClaim := by
  cases h with
  | same h =>
    rw [h.transition u, h.reserveClaim u]
    exact ⟨Iff.rfl, rfl⟩
  | port p f _ => simp
  | transition v f =>
    rw [State.updTransition, State.unit_updUnit]
    split <;> simp
  | hold v x _ _ =>
    rw [State.unit_updUnit]
    split <;> simp

theorem Calm.waiting {s t : State} (h : Calm s t) (u : UnitNo) :
    ((t.unit u).transition = none ↔ (s.unit u).transition = none) ∧
      (t.unit u).reserveClaim = (s.unit u).reserveClaim := by
  induction h with
  | refl => exact ⟨Iff.rfl, rfl⟩
  | tail _ h ih => exact ⟨(h.waiting u).1.trans ih.1, (h.waiting u).2.trans ih.2⟩

theorem Calm.dispatcherStateSound {s t : State} (h : Calm s t) (hs : s.DispatcherStateSound) :
    t.DispatcherStateSound := by
  unfold State.DispatcherStateSound
  simp only [h.dispatcher, h.orders, ne_eq, fun u => (h.waiting u).1, fun u => (h.waiting u).2]
  exact hs

/-- In UNPLANNED nothing comes in, and with nothing waiting nothing starts. -/
theorem Move.idle {b : Bool} {s t : State} (h : Move b s t) (hd : s.dispatcher = .unplanned) (hs : s.Idle) : t.Idle := by
  have upd : ∀ {u : UnitNo} {f : UnitRecord → UnitRecord},
      (∀ r : UnitRecord, r.transition = none ∧ r.reserveClaim = none →
        (f r).transition = none ∧ (f r).reserveClaim = none) → (s.updUnit u f).Idle := by
    intro u f hf
    refine ⟨hs.1, fun v => ?_⟩
    rw [State.unit_updUnit]
    split
    · exact hf _ (hs.2 v)
    · exact hs.2 v
  cases h with
  | quiet h =>
    refine ⟨h.frame.2.2.1.trans hs.1, fun u => ?_⟩
    rw [(h.waiting u).1, (h.waiting u).2]
    exact hs.2 u
  | start u x hw => exact absurd hw (by simp [hs.1, (hs.2 u).2])
  | finish u => exact upd fun r hr => ⟨rfl, hr.2⟩
  | unclaim u => exact upd fun r hr => ⟨hr.1, rfl⟩
  | depart l hl => exact ⟨List.sublist_nil.mp (hs.1 ▸ hl), hs.2⟩
  | append a _ hp _ _ => simp [hd] at hp
  | claim u c _ hp => exact absurd hd hp

theorem Moves.idle {b : Bool} {s t : State} (h : Moves b s t) (hd : s.dispatcher = .unplanned) (hs : s.Idle) :
    t.Idle := by
  induction h with
  | refl => exact hs
  | tail hst h ih => exact h.idle (Moves.dispatcher hst ▸ hd) ih

/-- In a drain no order comes in (R125). -/
theorem Moves.orders_nil_of_draining {b : Bool} {s t : State} (h : Moves b s t) (hd : s.dispatcher = .draining)
    (hs : s.orders = []) : t.orders = [] := by
  induction h with
  | refl => exact hs
  | tail hst h ih =>
    have hd' := (Moves.dispatcher hst).trans hd
    cases h with
    | quiet h => exact h.frame.2.2.1.trans ih
    | depart l hl => exact List.sublist_nil.mp (ih ▸ hl)
    | append a _ hp _ _ => simp [hd'] at hp
    | _ => exact ih

theorem dispatcherStateSound_of_planned {s : State} (h : Planned s) : s.DispatcherStateSound := by
  rcases h with h | h <;> simp [State.DispatcherStateSound, h]

theorem dispatcherStateSound_of_idle {s : State} (hd : s.dispatcher = .unplanned) (h : s.Idle) :
    s.DispatcherStateSound := ⟨fun _ => h, fun hn => by simp [hd] at hn⟩

/-- A sound state with a queued order has a plan. -/
theorem planned_of_orders {s : State} (hs : s.DispatcherStateSound) (ho : s.orders ≠ []) : Planned s := by
  cases hd : s.dispatcher with
  | unplanned => exact absurd (hs.1 hd).1 ho
  | draining => exact absurd (hs.2 hd).1 ho
  | directed => exact .inl hd
  | autonomous => exact .inr hd

theorem Effect.dispatcherStateSound {s t : State} (h : Effect s t) (hs : s.DispatcherStateSound) :
    t.DispatcherStateSound := by
  cases h with
  | nothing => exact hs
  | moves h hleft =>
    refine ⟨fun hd => h.idle (h.dispatcher ▸ hd) (hs.1 (h.dispatcher ▸ hd)), fun hd => ?_⟩
    have hd' : s.dispatcher = .draining := h.dispatcher ▸ hd
    exact ⟨h.orders_nil_of_draining hd' (hs.2 hd').1, not_nothingLeft fun hn => hleft ⟨hd, hn⟩⟩
  | drained h hd hn =>
    have hd' : s.dispatcher = .draining := h.dispatcher ▸ hd
    exact dispatcherStateSound_of_idle rfl ⟨h.orders_nil_of_draining hd' (hs.2 hd').1, nothingLeft_iff.mp hn⟩
  | leaves ho h => exact dispatcherStateSound_of_planned (h.planned (planned_of_orders hs ho))
  | turns d _ hd h => exact dispatcherStateSound_of_planned (h.planned hd)
  | drains _ h ho hn =>
    exact ⟨fun hd => by simp [h.dispatcher] at hd, fun _ => ⟨ho, not_nothingLeft hn⟩⟩
  | uncommits _ h ho hn => exact dispatcherStateSound_of_idle rfl ⟨ho, nothingLeft_iff.mp hn⟩
  | commits _ => exact dispatcherStateSound_of_planned (.inl rfl)
  | rewrites hd hd' ho _ _ hu h =>
    have hidle : s.Idle := hs.1 hd
    refine dispatcherStateSound_of_idle (h.dispatcher.trans hd') (h.idle hd' ⟨ho.trans hidle.1, fun u => ?_⟩)
    rcases hu u with heq | hclean
    · rw [heq]
      exact hidle.2 u
    · exact ⟨hclean.1, hclean.2.1⟩
  | clears hd' ho hu _ h =>
    exact dispatcherStateSound_of_idle (h.dispatcher.trans hd')
      (h.idle hd' ⟨ho, fun u => ⟨(hu u).1, (hu u).2.1⟩⟩)

/-- Settles O58: while nothing waits nothing starts, in UNPLANNED and in a drain nothing comes in, and every event that
may end the last transition or claim of a drain is followed by the end of the drain. -/
theorem dispatcherStateStaysSound : Obligations.DispatcherStateStaysSound := by
  intro s t hs h
  obtain ⟨s', t', hss, he, htt⟩ := step_acts h
  exact htt.dispatcherStateSound (he.dispatcherStateSound (hss.dispatcherStateSound hs))

/-! ## The plan lock -/

theorem Effect.plan {s t : State} (h : Effect s t) (hs : s.dispatcher ≠ .unplanned) (ht : t.dispatcher ≠ .unplanned) :
    t.plan = s.plan := by
  cases h with
  | nothing => rfl
  | moves h _ => exact h.frame.2
  | drained h _ _ => exact h.frame.2
  | leaves _ h => exact h.frame.2
  | turns d _ _ h => exact h.frame.2
  | drains _ h _ _ => exact h.frame.2
  | uncommits _ h _ _ => exact h.frame.2
  | commits hd => exact absurd hd hs
  | rewrites hd _ _ _ _ _ _ => exact absurd hd hs
  | clears hd _ _ _ h => exact absurd (h.dispatcher.trans hd) ht

/-- Settles O59: the plan is written only in UNPLANNED and by resets, which leave the dispatcher UNPLANNED. -/
theorem planStaysLocked : Obligations.PlanStaysLocked := by
  intro s t h hs ht
  obtain ⟨s', t', hss, he, htt⟩ := step_acts h
  have hs' : s'.dispatcher ≠ .unplanned := hss.dispatcher ▸ hs
  have ht' : t'.dispatcher ≠ .unplanned := htt.dispatcher ▸ ht
  calc t.plan = t'.plan := (htt.moves (b := true)).frame.2
    _ = s'.plan := he.plan hs' ht'
    _ = s.plan := (hss.moves (b := true)).frame.2

/-! ## The state after reset -/

theorem unit_reset (u : UnitNo) : State.reset.unit u = UnitRecord.afterPowerOn 0 Lines.clear u := State.unit_powerOn ..

/-- Settles O60: power-on reset with every line clear finds no trip, and leaves every block empty and UNPLANNED. -/
theorem resetStateIsSound : Obligations.ResetStateIsSound := by
  have hclean : ∀ u : UnitNo, (State.reset.unit u).Clean := fun u => by
    rw [unit_reset]
    exact ⟨rfl, rfl, rfl⟩
  refine ⟨⟨⟨State.powerOn_bounded _ _, State.powerOn_bounded _ _⟩, ⟨Nat.zero_le _, .nil⟩,
    fun u => (hclean u).holdSound,
    dispatcherStateSound_of_idle rfl ⟨rfl, fun u => ⟨(hclean u).1, (hclean u).2.1⟩⟩⟩, ?_⟩
  exact congrArg Host.Outcome.next rfl

/-! ## A step with a command waiting -/

/-- Settles O1: a step takes the front of the queue and runs it on the rest. -/
theorem stepRunsTheFrontCommand : Obligations.StepRunsTheFrontCommand := by
  intro c rest s h
  simp [step, h]

end Sys2Proof.Machine
end

section
/-!
PROOFS. The resets: the records, blocks, ports and tables after each, with the trips found at the sampling of the lines (R22,
R23, R63, R104 to R106, R116, R133, R134, R154, R158, R169 to R171, R179).
-/

namespace Sys2Proof.Machine

/-! ## What counting changes (R173 to R176) -/

/-- Counting for unit u changes its duty record and the queue and counters of the plant port, and nothing else. -/
structure Counted (u : UnitNo) (s t : State) : Prop where
  eq : t = { s with plantPort := t.plantPort, duty := t.duty }
  port : t.plantPort =
    { s.plantPort with originated := t.plantPort.originated, counters := t.plantPort.counters }
  self : CountStep (s.dutyOf u) (t.dutyOf u)
  other : ∀ v, v ≠ u → t.dutyOf v = s.dutyOf v

theorem CountStep.refl (d : Duty) : CountStep d d := ⟨rfl, rfl, rfl, rfl, rfl⟩

theorem CountStep.trans {d e f : Duty} (h : CountStep d e) (h' : CountStep e f) : CountStep d f :=
  ⟨h'.event.trans h.event, h'.enable.trans h.enable, h'.notify.trans h.notify,
    h'.freezeOnOverflow.trans h.freezeOnOverflow, h'.accumulator.trans h.accumulator⟩

namespace Counted

variable {u : UnitNo} {s t v : State}

theorem refl (u : UnitNo) (s : State) : Counted u s s := ⟨rfl, rfl, .refl _, fun _ _ => rfl⟩

theorem trans (h : Counted u s t) (h' : Counted u t v) : Counted u s v where
  eq := by rw [h'.eq, h.eq]
  port := by rw [h'.port, h.port]
  self := h.self.trans h'.self
  other w hw := (h'.other w hw).trans (h.other w hw)

theorem updDuty {f : Duty → Duty} (hf : CountStep (s.dutyOf u) (f (s.dutyOf u))) : Counted u s (s.updDuty u f) where
  eq := rfl
  port := rfl
  self := by rwa [State.dutyOf_updDuty_self]
  other _ hw := State.dutyOf_updDuty_of_ne _ hw _

theorem sendAlert (k : AlertKind) (subject : Byte) (detail : Half) : Counted u s (s.sendAlert k subject detail) := by
  unfold State.sendAlert State.originate
  split <;> exact ⟨rfl, rfl, .refl _, fun _ _ => rfl⟩

theorem foldl {g : State → CounterNo → State} (hg : ∀ s n, Counted u s (g s n)) (ns : List CounterNo) (s : State) :
    Counted u s (ns.foldl g s) := by
  induction ns generalizing s with
  | nil => exact .refl u s
  | cons n ns ih => exact (hg s n).trans (ih _)

theorem overflow (n : CounterNo) : Counted u s (State.overflow u s n) := by
  unfold State.overflow
  extract_lets s1 s2
  have h1 : Counted u s s1 := updDuty ⟨rfl, rfl, rfl, rfl, rfl⟩
  have h2 : Counted u s s2 := by
    unfold s2
    split
    · exact h1.trans (sendAlert _ _ _)
    · exact h1
  split
  · exact h2.trans (updDuty ⟨rfl, rfl, rfl, rfl, rfl⟩)
  · exact h2

theorem countAll (ns : List CounterNo) : Counted u s (s.countAll u ns) :=
  (foldl (fun _ _ => updDuty ⟨rfl, rfl, rfl, rfl, rfl⟩) ns s).trans (foldl (fun _ n => overflow n) _ _)

theorem dutyEvent (e : DutyEvent) : Counted u s (s.dutyEvent e u) := countAll _

theorem reportTrip (d : Half) : Counted u s (s.reportTrip u d) := (sendAlert _ _ _).trans (dutyEvent _)

theorem units (h : Counted u s t) : t.units = s.units := by rw [h.eq]

theorem unit (h : Counted u s t) (w : UnitNo) : t.unit w = s.unit w := by
  unfold State.unit
  rw [h.units]

theorem orders (h : Counted u s t) : t.orders = s.orders := by rw [h.eq]

end Counted

/-! ## Trips found at a reset (R22, R23; log 24) -/

/-- The record of a unit whose TRIP line a reset finds asserted: a unit that is OUT stays OUT (R12). -/
def UnitRecord.tripFound (r : UnitRecord) : UnitRecord :=
  { r with tripSeen := true, mode := if r.mode = .out then .out else .tripped }

/-- A trip with nothing bound to the unit and nothing queued changes its record and is reported. -/
theorem tripEvent_clean {s : State} {u : UnitNo} (ho : s.orders = []) (hu : (s.unit u).Clean)
    (hm : (s.unit u).mode ≠ .tripped) (d : Half) :
    s.tripEvent u d = (s.updUnit u UnitRecord.tripFound).reportTrip u d := by
  have out : (s.unit u).mode = .out → (s.updUnit u fun r => { r with tripSeen := true }) =
      s.updUnit u UnitRecord.tripFound := by
    intro h
    have hr : ({ s.unit u with tripSeen := true } : UnitRecord) = (s.unit u).tripFound := by
      simp only [UnitRecord.tripFound, h, if_true]
    exact congrArg (fun r => { s with units := s.units.set u.val r }) hr
  have enter : (s.unit u).mode ≠ .out → (s.updUnit u fun r => { r with tripSeen := true }).enterTripped u d =
      (s.updUnit u UnitRecord.tripFound).reportTrip u d := by
    intro h
    have h' : s.units[u.val].mode ≠ .out := h
    have hf : (s.updUnit u fun r => { r with tripSeen := true, mode := .tripped }) = s.updUnit u UnitRecord.tripFound := by
      simp [State.updUnit, UnitRecord.tripFound, h']
    obtain ⟨ht, hc, _⟩ := hu
    rw [State.enterTripped_eq]
    unfold State.trippedBy State.reportTrip
    rw [hf]
    have ht' : ((s.updUnit u UnitRecord.tripFound).unit u).transition = none := by simp [UnitRecord.tripFound, ht]
    have hc' : ((s.updUnit u UnitRecord.tripFound).unit u).reserveClaim = none := by simp [UnitRecord.tripFound, hc]
    have hend : (s.updUnit u UnitRecord.tripFound).endTransition u .failed .unitTripped true =
        s.updUnit u UnitRecord.tripFound := by
      unfold State.endTransition
      rw [ht']
    rw [hend]
    unfold State.waitingFails
    rw [hc']
    simp [ho, State.updUnit]
  unfold State.tripEvent
  extract_lets s1
  have hs1 : (s1.unit u).mode = (s.unit u).mode := by simp [s1]
  rw [hs1]
  split
  · next h => exact absurd h hm
  · next h => rw [← out h]
  · next h => exact enter (by simp [h])
  · next h => exact enter (by simp [h])

/-- What the trips found for the units `us` change. -/
structure TripsFound (us : List UnitNo) (s t : State) : Prop where
  eq : t = { s with units := t.units, plantPort := t.plantPort, duty := t.duty }
  unit : ∀ v, t.unit v = if v ∈ us then (s.unit v).tripFound else s.unit v
  port : t.plantPort =
    { s.plantPort with originated := t.plantPort.originated, counters := t.plantPort.counters }
  duty : ∀ v, CountStep (s.dutyOf v) (t.dutyOf v)
  dutySame : ∀ v, v ∉ us → t.dutyOf v = s.dutyOf v

/-- Nothing is queued, and nothing is bound to the units `us`, none of which is TRIPPED: a state that a reset leaves. -/
structure Sampled (us : List UnitNo) (s : State) : Prop where
  orders : s.orders = []
  clean : ∀ u ∈ us, (s.unit u).Clean
  mode : ∀ u ∈ us, (s.unit u).mode ≠ .tripped

theorem tripEvent_unit_of_ne {s : State} {u v : UnitNo} (ho : s.orders = []) (hu : (s.unit u).Clean)
    (hm : (s.unit u).mode ≠ .tripped) (hv : v ≠ u) (d : Half) : (s.tripEvent u d).unit v = s.unit v := by
  rw [tripEvent_clean ho hu hm, (Counted.reportTrip d).unit, State.unit_updUnit_of_ne _ hv]

/-- After the first trip the state is still one that a reset leaves, for the units that follow. -/
theorem Sampled.tail {us : List UnitNo} {u : UnitNo} {s : State} (h : Sampled (u :: us) s) (hu : u ∉ us) (d : Half) :
    Sampled us (s.tripEvent u d) := by
  have hcu := h.clean u List.mem_cons_self
  have hmu := h.mode u List.mem_cons_self
  have same : ∀ v ∈ us, (s.tripEvent u d).unit v = s.unit v := fun v hv =>
    tripEvent_unit_of_ne h.orders hcu hmu (fun e => hu (e ▸ hv)) d
  refine ⟨?_, fun v hv => ?_, fun v hv => ?_⟩
  · rw [tripEvent_clean h.orders hcu hmu, (Counted.reportTrip d).orders]
    exact h.orders
  · rw [same v hv]
    exact h.clean v (List.mem_cons_of_mem _ hv)
  · rw [same v hv]
    exact h.mode v (List.mem_cons_of_mem _ hv)

theorem tripsFound_foldl {us : List UnitNo} {s : State} (h : Sampled us s) (hn : us.Nodup) :
    TripsFound us s (us.foldl (fun t u => t.tripEvent u 0) s) := by
  induction us generalizing s with
  | nil => exact ⟨rfl, fun v => by simp, rfl, fun _ => .refl _, fun _ _ => rfl⟩
  | cons u us ih =>
    obtain ⟨hu, hus⟩ := List.nodup_cons.mp hn
    have ht := ih (h.tail hu 0) hus
    have he := tripEvent_clean h.orders (h.clean u List.mem_cons_self) (h.mode u List.mem_cons_self) 0
    have hc : Counted u (s.updUnit u UnitRecord.tripFound) (s.tripEvent u 0) := he ▸ Counted.reportTrip 0
    have hunit : ∀ v, (s.tripEvent u 0).unit v = if v = u then (s.unit v).tripFound else s.unit v := fun v => by
      rw [hc.unit, State.unit_updUnit]
    rw [List.foldl_cons]
    refine ⟨?_, fun v => ?_, ?_, fun v => ?_, fun v hv => ?_⟩
    · rw [ht.eq, hc.eq]
      rfl
    · rw [ht.unit, hunit]
      by_cases hvu : v = u
      · subst hvu
        simp [hu]
      · simp [hvu]
    · rw [ht.port, hc.port]
      rfl
    · refine .trans ?_ (ht.duty v)
      by_cases hvu : v = u
      · exact hvu ▸ hc.self
      · rw [hc.other v hvu]
        exact .refl _
    · rw [List.mem_cons, not_or] at hv
      rw [ht.dutySame v hv.2, hc.other v hv.1]
      rfl

/-- The units in service whose TRIP line a reset finds asserted. -/
def tripped (s : State) (lines : Lines) : List UnitNo :=
  unitNumbers.filter fun u => s.unitInService u && hasUnit lines.trip u

theorem unitNumbers_nodup : unitNumbers.Nodup := by decide

theorem mem_tripped {s : State} {lines : Lines} {u : UnitNo} :
    u ∈ tripped s lines ↔ u.val < s.plan.station.unitCount.toNat ∧ lines.trip.getLsbD u.val = true := by
  simp [tripped, mem_unitNumbers, State.unitInService, hasUnit]

theorem tripsFound_sampleTrips {s : State} {lines : Lines} (h : Sampled (tripped s lines) s) :
    TripsFound (tripped s lines) s (s.sampleTrips unitNumbers lines) :=
  tripsFound_foldl h (unitNumbers_nodup.filter _)

/-! ## Power-on reset -/

/-- The state that power-on reset leaves before the lines act. -/
def powerOnValues (lines : Lines) (plantOk unitOk : Bool) (s : State) : State :=
  { State.powerOn s.now lines plantOk unitOk with
    pending := s.pending, freeCount := s.freeCount, requestSerial := s.requestSerial }

section

variable (lines : Lines) (plantOk unitOk : Bool) (s : State)

theorem exec_powerOnReset : exec (.powerOnReset lines plantOk unitOk) s =
    .next ((powerOnValues lines plantOk unitOk s).sampleTrips unitNumbers lines) := rfl

theorem unit_powerOnValues (u : UnitNo) :
    (powerOnValues lines plantOk unitOk s).unit u = UnitRecord.afterPowerOn s.now lines u :=
  State.unit_powerOn s.now lines plantOk unitOk

theorem dutyOf_powerOnValues (u : UnitNo) : (powerOnValues lines plantOk unitOk s).dutyOf u = Duty.powerOn := by
  simp [State.dutyOf, powerOnValues, State.powerOn]

theorem sampled_powerOnValues (us : List UnitNo) : Sampled us (powerOnValues lines plantOk unitOk s) where
  orders := rfl
  clean u _ := by
    rw [unit_powerOnValues]
    exact ⟨rfl, rfl, rfl⟩
  mode u _ := by
    rw [unit_powerOnValues]
    simp [UnitRecord.afterPowerOn, UnitRecord.powerOn]

theorem tripsFound_powerOn : TripsFound (tripped (powerOnValues lines plantOk unitOk s) lines)
    (powerOnValues lines plantOk unitOk s) ((powerOnValues lines plantOk unitOk s).sampleTrips unitNumbers lines) :=
  tripsFound_sampleTrips (sampled_powerOnValues lines plantOk unitOk s _)

/-- After power-on reset every unit is in service (R118). -/
theorem mem_tripped_powerOnValues {u : UnitNo} :
    u ∈ tripped (powerOnValues lines plantOk unitOk s) lines ↔ lines.trip.getLsbD u.val = true := by
  rw [mem_tripped]
  exact and_iff_right u.isLt

end

/-- Settles O3: the sampled trips change the records of the tripped units alone. -/
theorem powerOnResetUnitRecords : Obligations.PowerOnResetUnitRecords := by
  intro lines plantOk unitOk s
  refine ⟨_, exec_powerOnReset lines plantOk unitOk s, fun u => ?_⟩
  rw [(tripsFound_powerOn lines plantOk unitOk s).unit, unit_powerOnValues]
  simp only [mem_tripped_powerOnValues]
  cases htrip : lines.trip.getLsbD u.val <;>
    simp [UnitRecord.afterPowerOn, UnitRecord.powerOn, UnitRecord.tripFound, debounceFrom, htrip,
      - BitVec.getLsbD_eq_getElem]

/-! ### The alerts dropped at the DOWN plant port -/

/-- With the plant port DOWN and no counter on TRIPS, a reported trip is a dropped alert (R152). -/
theorem reportTrip_down {s : State} {u : UnitNo} (hl : s.plantPort.link = false)
    (he : ∀ n, s.eventOf u n ≠ .trips) (d : Half) : s.reportTrip u d = s.countTransmitDrops .plant 1 := by
  have ha : s.sendAlert .trip (unitByte u) d = s.countTransmitDrops .plant 1 := by
    simp [State.sendAlert, State.originate, State.canOriginate, State.port, hl]
  have hev : ∀ n, (s.countTransmitDrops .plant 1).eventOf u n = s.eventOf u n := fun n => by
    simp [State.eventOf, State.countTransmitDrops]
  rw [State.reportTrip, ha, State.dutyEvent]
  simp [hev, he, State.countAll]

theorem saturate_ofNat {k : Nat} (hk : k + 1 < 4294967295) :
    saturate (BitVec.ofNat 32 k) 1 = BitVec.ofNat 32 (k + 1) := by
  have hlt : k < 2 ^ 32 := by omega
  unfold saturate
  rw [BitVec.toNat_ofNat, Nat.mod_eq_of_lt hlt, if_neg (by omega)]
  exact (BitVec.ofNat_add k 1).symm

/-- Every alert of the sampling is dropped at the DOWN plant port and counted. -/
theorem sampling_drops {us : List UnitNo} {s : State} {k : Nat} (h : Sampled us s) (hn : us.Nodup)
    (hl : s.plantPort.link = false) (he : ∀ u n, s.eventOf u n = .none)
    (hk : s.plantPort.counters.transmitDrops = BitVec.ofNat 32 k) (hlt : k + us.length < 4294967295) :
    (us.foldl (fun t u => t.tripEvent u 0) s).plantPort =
        { s.plantPort with
          counters := { s.plantPort.counters with transmitDrops := BitVec.ofNat 32 (k + us.length) } } ∧
      (us.foldl (fun t u => t.tripEvent u 0) s).duty = s.duty := by
  induction us generalizing s k with
  | nil => exact ⟨by simp [← hk], rfl⟩
  | cons u us ih =>
    obtain ⟨hu, hus⟩ := List.nodup_cons.mp hn
    rw [List.length_cons] at hlt
    have hev : ∀ n, (s.updUnit u UnitRecord.tripFound).eventOf u n ≠ .trips := fun n hc => by
      have := (he u n).symm.trans hc
      cases this
    have hs : s.tripEvent u 0 = (s.updUnit u UnitRecord.tripFound).countTransmitDrops .plant 1 :=
      (tripEvent_clean h.orders (h.clean u List.mem_cons_self) (h.mode u List.mem_cons_self) 0).trans
        (reportTrip_down (s := s.updUnit u UnitRecord.tripFound) hl hev 0)
    have hport : (s.tripEvent u 0).plantPort =
        { s.plantPort with
          counters := { s.plantPort.counters with transmitDrops := BitVec.ofNat 32 (k + 1) } } := by
      rw [hs, ← saturate_ofNat (by omega), ← hk]
      rfl
    have hduty : (s.tripEvent u 0).duty = s.duty := by
      rw [hs]
      rfl
    obtain ⟨ihp, ihd⟩ := ih (s := s.tripEvent u 0) (k := k + 1) (h.tail hu 0) hus (by rw [hport]; exact hl)
      (fun v n => by
        unfold State.eventOf State.dutyOf
        rw [hduty]
        exact he v n)
      (by rw [hport]) (by omega)
    rw [List.foldl_cons, ihp, ihd, hport, hduty, List.length_cons]
    exact ⟨by rw [show k + 1 + us.length = k + (us.length + 1) by omega], rfl⟩

/-- The plant port and the duty registers after power-on reset. -/
theorem powerOn_port_duty (lines : Lines) (plantOk unitOk : Bool) (s : State) :
    ((powerOnValues lines plantOk unitOk s).sampleTrips unitNumbers lines).plantPort =
        { PortState.powerOn s.now plantOk with
          counters := { Counters.zero with
            transmitDrops := BitVec.ofNat 32 (unitNumbers.countP fun u => lines.trip.getLsbD u.val) } } ∧
      ((powerOnValues lines plantOk unitOk s).sampleTrips unitNumbers lines).duty = Vector.replicate 8 Duty.powerOn := by
  have hlen : (tripped (powerOnValues lines plantOk unitOk s) lines).length =
      unitNumbers.countP fun u => lines.trip.getLsbD u.val := by
    rw [tripped, ← List.countP_eq_length_filter]
    refine List.countP_congr fun u _ => ?_
    rw [Bool.and_eq_true, and_iff_right]
    · rfl
    · exact decide_eq_true u.isLt
  have hle : unitNumbers.countP (fun u => lines.trip.getLsbD u.val) ≤ 8 := List.countP_le_length
  obtain ⟨hp, hd⟩ := sampling_drops (k := 0) (sampled_powerOnValues lines plantOk unitOk s
    (tripped (powerOnValues lines plantOk unitOk s) lines)) (unitNumbers_nodup.filter _) rfl
    (fun u n => by
      unfold State.eventOf
      rw [dutyOf_powerOnValues]
      simp [Duty.powerOn])
    rfl (by omega)
  refine ⟨hp.trans ?_, hd⟩
  rw [hlen, Nat.zero_add]
  rfl

/-- Settles O4: the sampling changes no block but the Unit Monitor, and at a DOWN port its alerts only count. -/
theorem powerOnResetBlocksAndPorts : Obligations.PowerOnResetBlocksAndPorts := by
  refine ⟨fun lines plantOk unitOk s => ⟨_, exec_powerOnReset lines plantOk unitOk s, ?_⟩,
    fun lines plantOk unitOk s => ⟨_, exec_powerOnReset lines plantOk unitOk s, ?_, ?_⟩⟩
  · have hduty : ∀ u, ((powerOnValues lines plantOk unitOk s).sampleTrips unitNumbers lines).dutyOf u = Duty.powerOn := by
      intro u
      unfold State.dutyOf
      rw [(powerOn_port_duty lines plantOk unitOk s).2]
      simp
    simp only [hduty]
    rw [(tripsFound_powerOn lines plantOk unitOk s).eq]
    refine ⟨rfl, rfl, fun c => ?_, rfl, rfl, rfl, rfl, rfl, rfl, rfl, rfl, rfl, rfl, rfl, fun _ => rfl⟩
    fin_cases c <;> rfl
  · rw [(tripsFound_powerOn lines plantOk unitOk s).eq]
    rfl
  · rw [(powerOn_port_duty lines plantOk unitOk s).1]
    rfl

/-- Settles O5: the sampling leaves the tables, which hold one and the same entry throughout. -/
theorem powerOnResetTables : Obligations.PowerOnResetTables := by
  intro lines plantOk unitOk s
  refine ⟨_, exec_powerOnReset lines plantOk unitOk s, ?_⟩
  rw [(tripsFound_powerOn lines plantOk unitOk s).eq]
  have mem : ∀ {α : Type} {n : Nat} {a e : α}, e ∈ (Vector.replicate n a).toList → e = a := by
    intro α n a e h
    rw [Vector.toList_replicate] at h
    exact List.eq_of_mem_replicate h
  refine ⟨rfl, fun e he => ?_, fun e he => ?_, fun e he => mem he, fun e he => mem he, fun e he => mem he,
    fun e he => ?_, fun e he => ?_, fun e he => mem he, fun g hg c => ?_, fun r hr => ?_⟩
  · rw [mem he]
    exact ⟨rfl, rfl⟩
  · rw [mem he]
    exact ⟨rfl, rfl⟩
  · rw [mem he]
    exact ⟨rfl, rfl⟩
  · rw [mem he]
    exact ⟨rfl, rfl, rfl⟩
  · rw [mem hg]
    cases c <;> rfl
  · rw [mem hr]
    refine ⟨rfl, fun e he => ?_⟩
    rw [mem he]
    exact ⟨rfl, rfl⟩

/-! ## The soft reset -/

section

variable {lines : Lines} {s : State}

/-- SOFT_RESET acts once RESET_PENDING is set and the answer stands in the queue no longer (log 5). -/
theorem exec_softReset (hp : s.resetPending = true) (ha : ∀ x ∈ s.plantPort.originated, isResetAnswer x = false) :
    exec (.softReset lines) s = .next (s.answerLeaves.softResetEvent lines) := by
  have hd : s.resetDue = true := by simpa [State.resetDue, hp] using ha
  simp [exec, execSoftReset, hd]

theorem exec_softReset_not (h : s.resetPending = false ∨ ∃ x ∈ s.plantPort.originated, isResetAnswer x = true) :
    exec (.softReset lines) s = .next s := by
  have hd : s.resetDue = false := by
    rcases h with h | ⟨x, hx, ha⟩
    · simp [State.resetDue, h]
    · simp only [State.resetDue, Bool.and_eq_false_iff, Bool.not_eq_false', List.any_eq_true]
      exact .inr ⟨x, hx, ha⟩
  simp [exec, execSoftReset, hd]

/-- What the soft reset leaves of the port is the same whatever its queues and counters were (R158). -/
theorem softValues_plantPort {q q' : PortState} (h : q.softReset = q'.softReset) :
    ({ s with plantPort := q } : State).softValues lines = ({ s with plantPort := q' } : State).softValues lines := by
  unfold State.softValues
  dsimp only
  rw [h]
  rfl

theorem softResetEvent_plantPort {q q' : PortState} (h : q.softReset = q'.softReset) :
    ({ s with plantPort := q } : State).softResetEvent lines = ({ s with plantPort := q' } : State).softResetEvent lines := by
  unfold State.softResetEvent
  rw [softValues_plantPort h]

theorem sampled_softValues (s : State) (lines : Lines) (us : List UnitNo) : Sampled us (s.softValues lines) where
  orders := rfl
  clean u _ := by
    rw [State.unit_softValues]
    exact State.softUnitRecord_clean lines
  mode u _ := by
    rw [State.unit_softValues]
    unfold State.softUnitRecord State.softUnit
    split
    · dsimp only
      split <;> simp
    · simp [UnitRecord.powerOn]

theorem tripsFound_soft (s : State) (lines : Lines) :
    TripsFound (tripped (s.softValues lines) lines) (s.softValues lines) (s.softResetEvent lines) :=
  tripsFound_sampleTrips (sampled_softValues s lines _)

theorem mem_tripped_softValues {u : UnitNo} : u ∈ tripped (s.softValues lines) lines ↔
    u.val < s.plan.station.unitCount.toNat ∧ lines.trip.getLsbD u.val = true := mem_tripped

end

/-- Settles O6: the answer's leaving touches no unit. -/
theorem softResetUnitRecords : Obligations.SoftResetUnitRecords := by
  intro lines s hp ha
  refine ⟨_, exec_softReset hp ha, fun u => ?_⟩
  rw [(tripsFound_soft s.answerLeaves lines).unit, State.unit_softValues]
  simp only [mem_tripped_softValues]
  have hplan : s.answerLeaves.plan = s.plan := rfl
  have hunit : s.answerLeaves.unit u = s.unit u := rfl
  rw [hplan]
  refine ⟨fun hu => ?_, fun hu => ?_⟩
  · have hin : s.answerLeaves.unitInService u = true := decide_eq_true hu
    have hnow : s.answerLeaves.now = s.now := rfl
    cases hout : (s.unit u).configuredOut <;> cases htrip : lines.trip.getLsbD u.val <;>
      simp [hu, State.softUnitRecord, hin, State.softUnit, hunit, hout, htrip, UnitRecord.powerOn, hnow,
        UnitRecord.tripFound, debounceFrom, hasUnit, State.inTenths, hplan, - BitVec.getLsbD_eq_getElem]
  · have hin : s.answerLeaves.unitInService u = false := decide_eq_false (by rw [hplan]; omega)
    simp [show ¬ u.val < s.plan.station.unitCount.toNat by omega, State.softUnitRecord, hin, UnitRecord.powerOn, hasUnit]

theorem waterway_softValues {lines : Lines} {s : State} (w : WaterwayNo) :
    (s.softValues lines).waterway w = s.softWaterway w := by
  fin_cases w <;> rfl

theorem dutyOf_softValues {lines : Lines} {s : State} (u : UnitNo) :
    (s.softValues lines).dutyOf u = (s.dutyOf u).softReset := by
  fin_cases u <;> rfl

/-- Settles O7: the values of the soft reset, which the sampled trips only count on. -/
theorem softResetBlocksPortsAndCounters : Obligations.SoftResetBlocksPortsAndCounters := by
  refine ⟨fun lines s hp ha => ⟨_, exec_softReset hp ha, ?_⟩, fun lines s hp ha => ⟨_, exec_softReset hp ha, ?_⟩,
    fun lines s hp ha => ⟨_, exec_softReset hp ha, ?_⟩⟩
  all_goals have ht := tripsFound_soft s.answerLeaves lines
  · rw [ht.eq]
    refine ⟨rfl, rfl, fun c => ?_, rfl, fun w hw => ?_, fun w hw => ?_, rfl, rfl, rfl, rfl, rfl, rfl, rfl, rfl, rfl,
      rfl, rfl⟩
    · fin_cases c <;> rfl
    · refine (waterway_softValues (lines := lines) w).trans ?_
      rw [State.softWaterway, if_pos (show s.answerLeaves.waterwayInService w = true from decide_eq_true hw)]
      rfl
    · refine (waterway_softValues (lines := lines) w).trans ?_
      have hout : ¬ s.answerLeaves.waterwayInService w = true :=
        fun h => absurd (show w.val < s.plan.station.waterwayCount.toNat from of_decide_eq_true h) (by omega)
      rw [State.softWaterway, if_neg hout]
      rfl
  · refine ⟨?_, ?_, ?_, ?_, ?_, fun h0 => ?_⟩
    · rw [ht.eq]
      rfl
    · rw [ht.port]
      rfl
    · rw [ht.port]
      rfl
    · rw [ht.port]
      rfl
    · rw [ht.port]
      show Option.map _ (Option.filter _ s.plantPort.transmitting) = _
      cases s.plantPort.transmitting with
      | none => rfl
      | some x => cases hx : isResetAnswer x.telegram <;> simp [Option.filter, hx]
    · have hnone : (unitNumbers.filter fun u =>
          (s.answerLeaves.softValues lines).unitInService u && hasUnit lines.trip u) = [] := by
        simp [hasUnit, h0]
      unfold State.softResetEvent State.sampleTrips
      rw [hnone]
      exact ⟨rfl, rfl⟩
  · refine ⟨by rw [ht.eq]; rfl, fun u => ?_⟩
    have hcount := ht.duty u
    rw [dutyOf_softValues] at hcount
    refine ⟨hcount.event, hcount.enable, hcount.notify, hcount.freezeOnOverflow, hcount.accumulator, fun htrip => ?_⟩
    have hsame := ht.dutySame u (fun h => by
      have := (mem_tripped_softValues.mp h).2
      rw [htrip] at this
      cases this)
    rw [hsame, dutyOf_softValues]
    exact ⟨rfl, rfl, rfl, rfl⟩

/-! ## The report (R158, R169; log 5) -/

/-- At the plant port's report of the answer to a pending RESET the soft reset is made, whatever the port's queues and
counters have become (R158). -/
theorem answerGone_plant {s t : State} {q : PortState} {ts : List Telegram} (ht : t = { s with plantPort := t.plantPort })
    (hq : t.plantPort.softReset = q.softReset) (hp : s.resetPending = true) (h : ∃ x ∈ ts, isResetAnswer x = true) :
    t.answerGone .plant ts = ({ s with plantPort := q } : State).softResetEvent s.lines := by
  have hp' : t.resetPending = true := by rw [ht]; exact hp
  have hl : t.lines = s.lines := by rw [ht]
  rw [State.answerGone, if_pos ⟨rfl, hp', List.any_eq_true.mpr h⟩, hl, ← softResetEvent_plantPort hq, ← ht]

theorem answerGone_none {s : State} {p : PortName} {ts : List Telegram}
    (h : p = .unit ∨ s.resetPending = false ∨ ∀ x ∈ ts, isResetAnswer x = false) : s.answerGone p ts = s := by
  refine if_neg fun ⟨hpl, hr, hany⟩ => ?_
  obtain ⟨x, hx, ha⟩ := List.any_eq_true.mp hany
  rcases h with h | h | h
  · rw [h] at hpl
    cases hpl
  · rw [h] at hr
    cases hr
  · rw [h x hx] at ha
    cases ha

/-- Settles O8: what the report finds in the port's queues and counters is gone with the reset. -/
theorem softResetWaitsForTheReport : Obligations.SoftResetWaitsForTheReport := by
  refine ⟨fun t => ?_, fun lines s => ⟨exec_softReset_not, fun hp ha => ⟨fun hx => ?_, fun x hx hans => ?_⟩⟩,
    fun x s hp hx hans => ?_, fun s hp hl h => ?_⟩
  · simp [isResetAnswer]
  · rw [exec_softReset hp ha]
    have : s.answerLeaves = s := by
      have hfilter : s.plantPort.transmitting.filter (fun x => !isResetAnswer x.telegram) = s.plantPort.transmitting := by
        cases htr : s.plantPort.transmitting with
        | none => rfl
        | some x => simp [Option.filter, hx x htr]
      simp [State.answerLeaves, State.updPort, hfilter]
    rw [this]
  · rw [exec_softReset hp ha]
    have : s.answerLeaves = { s with plantPort := { s.plantPort with transmitting := none } } := by
      simp [State.answerLeaves, State.updPort, hx, Option.filter, hans]
    rw [this]
  · have hend : s.endTransmission .plant = (({ s with plantPort := { s.plantPort with transmitting := none } } : State).softResetEvent
        s.lines) := by
      unfold State.endTransmission
      rw [show (s.port .plant).transmitting = some x from hx]
      dsimp only
      split <;> exact answerGone_plant rfl rfl hp ⟨_, List.mem_singleton_self _, hans⟩
    exact congrArg Host.Outcome.next hend
  · obtain ⟨x, hx, hans⟩ := h
    have hmem : x ∈ State.lostTelegrams s.plantPort := by
      simp only [State.lostTelegrams, List.mem_append, Option.mem_toList, Option.map_eq_some_iff]
      exact .inl (hx.elim (fun h => .inr h) fun h => .inl h)
    have hfall : s.linkFalls .plant = (({ s with plantPort :=
        { s.plantPort with
          link := false, linkOk := false, linkFilter := none, originated := [], forwarded := []
          transmitting := none } } : State).softResetEvent s.lines) := by
      unfold State.linkFalls
      dsimp only
      have hne : State.lostTelegrams (s.port .plant) ≠ [] := List.ne_nil_of_mem hmem
      rw [if_pos (show (s.port .plant).link = true from hl), if_neg hne]
      exact answerGone_plant rfl rfl hp ⟨x, hmem, hans⟩
    exact congrArg Host.Outcome.next hfall

end Sys2Proof.Machine
end

section
/-!
PROOFS. Chapters 8 and 9: link states, the receive checks, transmission, the placing of telegrams, and the guard (R135, R143
to R145, R148 to R156).
-/

namespace Sys2Proof.Machine

/-! ## Counters (R156) -/

theorem saturate_toNat (w : Word) (n : Nat) : (saturate w n).toNat = min (w.toNat + n) 4294967295 := by
  unfold saturate
  split
  · next h => exact (Nat.min_eq_right h).symm
  · rw [BitVec.toNat_add, BitVec.toNat_ofNat]
    omega

theorem saturate_zero (w : Word) : saturate w 0 = w := by
  apply BitVec.eq_of_toNat_eq
  rw [saturate_toNat]
  omega

/-- Counting in two portions is counting at once. -/
theorem saturate_saturate (w : Word) (m n : Nat) : saturate (saturate w m) n = saturate w (m + n) := by
  apply BitVec.eq_of_toNat_eq
  simp only [saturate_toNat]
  omega

theorem saturate_one {w : Word} (h : w ≠ 0xFFFFFFFF#32) : saturate w 1 = w + 1 := by
  have hw : w.toNat ≠ 4294967295 := fun e => h (BitVec.eq_of_toNat_eq e)
  have hlt : w.toNat < 4294967296 := w.isLt
  apply BitVec.eq_of_toNat_eq
  rw [saturate_toNat, BitVec.toNat_add, show BitVec.toNat (1 : Word) = 1 from rfl]
  omega

theorem saturate_full : saturate 0xFFFFFFFF#32 1 = 0xFFFFFFFF#32 := rfl

namespace State

variable {s : State} {p : PortName}

/-! ## Ports changed by what they hold -/

theorem updPort_congr {f g : PortState → PortState} (h : f (s.port p) = g (s.port p)) :
    s.updPort p f = s.updPort p g := by
  cases p <;> simp only [updPort, port] at h ⊢ <;> rw [h]

theorem receives_not {t : State} (h : (t.port p).link = false ∨ (p = .unit ∧ t.unitPort.transmitting ≠ none)) :
    t.receives p = false := by
  rcases h with h | ⟨rfl, h⟩
  · simp [receives, h]
  · simp [receives, drivesLine, Option.isSome_iff_ne_none.mpr h]

end State

/-! ## Link states (R154, R155) -/

section

variable {s : State} {p : PortName}

theorem linkFalls_up (hl : (s.port p).link = true) (hans : p = .unit ∨ s.resetPending = false ∨
      ∀ x ∈ State.lostTelegrams (s.port p), isResetAnswer x = false) :
    s.linkFalls p = s.updPort p fun q =>
      { link := false, linkOk := false, linkFilter := none, originated := [], forwarded := [], transmitting := none
        counters := { q.counters with
          transmitDrops := saturate q.counters.transmitDrops (State.lostTelegrams q).length } } := by
  unfold State.linkFalls
  rw [if_pos hl]
  dsimp only
  split
  · next hlost =>
    refine State.updPort_congr ?_
    have hlen : (State.lostTelegrams (s.port p)).length = 0 := List.length_eq_zero_iff.mpr hlost
    simp only [State.lostTelegrams, List.append_eq_nil_iff, Option.toList_eq_nil_iff, Option.map_eq_none_iff] at hlost
    obtain ⟨⟨htr, ho⟩, hf⟩ := hlost
    rw [hlen, saturate_zero, htr, ho, hf]
  · rw [answerGone_none (by simpa [State.countTransmitDrops] using hans), State.countTransmitDrops, State.updCounters,
      State.updPort_updPort, State.updPort_updPort]
    exact State.updPort_congr rfl

theorem linkFalls_down (hl : (s.port p).link = false) :
    s.linkFalls p = s.updPort p fun q => { q with linkOk := false, linkFilter := none } := by
  unfold State.linkFalls
  extract_lets lost s1
  have hlost : lost = [] := if_neg (by rw [hl]; exact Bool.false_ne_true)
  rw [if_pos hlost]
  refine State.updPort_congr ?_
  rw [← hl]

end

/-- Settles O9: a link that rises or falls, by the state that it finds. -/
theorem linkStateFollowsLinkOk : Obligations.LinkStateFollowsLinkOk := by
  refine ⟨fun p s => ?rises, fun p s => ⟨?falls, fun hl => congrArg Host.Outcome.next (linkFalls_down hl)⟩⟩
  case rises =>
    have hport := s.port_updPort_self p fun q => { q with link := true, linkOk := true, linkFilter := none }
    exact ⟨s.linkRises p, rfl, hport, State.updPort_congr hport.symm⟩
  case falls =>
    intro hl q lost hans
    exact congrArg Host.Outcome.next ((linkFalls_up hl hans).trans (State.updPort_congr rfl))

/-! ## The receive checks (R150) -/

/-- A frame that the receive checks discard is counted by their verdict and has no other effect. -/
theorem exec_frameDiscarded {p : PortName} {bytes : List Byte} {s : State} (hs : s.Receives p) :
    (checkFrame bytes = .malformed → exec (.frameDiscarded p bytes) s = .next (s.countMalformed p)) ∧
      (checkFrame bytes = .crcError → exec (.frameDiscarded p bytes) s = .next (s.countCrcError p)) := by
  have hr : ¬ (!s.receives p) = true := by simp [(receives_iff s p).2 hs]
  constructor <;> intro h <;> refine congrArg Host.Outcome.next ?_ <;> rw [State.takeFrame, if_neg hr, h]

theorem checkFrame_crcError {bytes : List Byte} (hn : bytes.length ≤ 76)
    (h : bytes.length ≤ 4 ∨ bytes.drop (bytes.length - 4) ≠ wordBytes (crc (bytes.take (bytes.length - 4)))) :
    checkFrame bytes = .crcError := by
  unfold checkFrame
  dsimp only
  rw [if_neg (by omega)]
  split
  · rfl
  · next h4 => exact if_pos (h.resolve_left h4)

theorem checkFrame_malformed {bytes : List Byte} (hn : bytes.length ≤ 76) (h4 : 4 < bytes.length)
    (hcrc : bytes.drop (bytes.length - 4) = wordBytes (crc (bytes.take (bytes.length - 4))))
    (h : bytes.length < 12 ∨ 64 < (bytes.getD 7 0).toNat ∨ bytes.length ≠ (bytes.getD 7 0).toNat + 12) :
    checkFrame bytes = .malformed := by
  unfold checkFrame
  dsimp only
  rw [if_neg (by omega), if_neg (by omega), if_neg (not_not.mpr hcrc)]
  split
  · rfl
  · next h12 =>
    have hlen : (bytes.take (bytes.length - 4)).getD 7 0 = bytes.getD 7 0 := by
      rw [List.getD_eq_getElem?_getD, List.getD_eq_getElem?_getD, List.getElem?_take_of_lt (by omega)]
    rw [hlen, if_pos (h.resolve_left h12)]

/-- Settles O10: the frame by the first check that it fails. -/
theorem receiveChecksDiscardAndCount : Obligations.ReceiveChecksDiscardAndCount := by
  intro p bytes s
  refine ⟨fun h => congrArg Host.Outcome.next ?_, fun hl hu => ?_⟩
  · rw [State.takeFrame, State.receives_not h]
    rfl
  · obtain ⟨hmalformed, hcrcError⟩ := exec_frameDiscarded (bytes := bytes) (s := s) ⟨hl, hu⟩
    refine ⟨fun h76 => hmalformed ?_, fun h76 => ⟨fun h => hcrcError (checkFrame_crcError h76 h),
      fun h4 hcrc h => hmalformed (checkFrame_malformed h76 h4 hcrc h)⟩⟩
    exact if_pos h76

/-! ## Telegrams on the line (R148) -/

theorem length_telegramBody (t : Telegram) : (telegramBody t).length = 8 + t.payload.length := by
  simp only [telegramBody, List.length_append, List.length_cons, List.length_nil]

theorem parseBody_telegramBody (t : Telegram) : parseBody (telegramBody t) = some t := by
  simp [telegramBody, parseBody]

/-- Settles O11: the bytes of a telegram end in the CRC of the others, and LEN is their number less twelve. -/
theorem sentTelegramsPassTheReceiveChecks : Obligations.SentTelegramsPassTheReceiveChecks := by
  refine ⟨by decide +kernel, fun t ht => ?_⟩
  have hn : (telegramBytes t).length = 12 + t.payload.length := by
    rw [telegramBytes, List.length_append, length_telegramBody, wordBytes_length]
    omega
  have hbody : (telegramBytes t).length - 4 = (telegramBody t).length := by
    rw [hn, length_telegramBody]
    omega
  have htake : (telegramBytes t).take ((telegramBytes t).length - 4) = telegramBody t := by
    rw [hbody, telegramBytes, List.take_left]
  have hdrop : (telegramBytes t).drop ((telegramBytes t).length - 4) = wordBytes (crc (telegramBody t)) := by
    rw [hbody, telegramBytes, List.drop_left]
  have hlen : ((telegramBody t).getD 7 0).toNat = t.payload.length := by
    show (BitVec.ofNat 8 t.payload.length).toNat = _
    rw [BitVec.toNat_ofNat]
    omega
  refine ⟨by omega, by omega, ?_⟩
  unfold checkFrame
  dsimp only
  rw [htake, hdrop, hlen, hn, if_neg (by omega), if_neg (by omega), if_neg (not_not.mpr rfl), if_neg (by omega),
    if_neg (by omega), parseBody_telegramBody]

/-! ## Placing and dropping (R152) -/

theorem hiByte_zero : hiByte 0#16 = 0#8 := by decide

theorem loByte_zero : loByte 0#16 = 0#8 := by decide

/-- Settles O12: a telegram is placed while its queue has room on a link that is UP, and is dropped and counted
otherwise. -/
theorem telegramsArePlacedOrDropped : Obligations.TelegramsArePlacedOrDropped := by
  refine ⟨⟨fun p t s => ⟨fun hl hr => ?_, fun h => ?_, fun hl hr => ?_, fun h => ?_⟩, ?_, ?_, ?_, ?_, ?_⟩,
    fun s => ⟨fun _ _ _ _ _ _ => rfl, fun _ _ _ => rfl, fun _ _ _ _ _ _ => rfl, fun _ _ _ => rfl⟩,
    fun w => ⟨?_, saturate_one⟩, rfl, rfl, rfl, rfl, rfl, rfl, fun _ => rfl, rfl, rfl, rfl, rfl⟩
  · exact if_pos (by simp [State.canOriginate, hl, hr])
  · refine if_neg fun hc => ?_
    simp only [State.canOriginate, Bool.and_eq_true, decide_eq_true_eq] at hc
    rcases h with h | h
    · exact absurd (h.symm.trans hc.1) Bool.false_ne_true
    · omega
  · exact if_pos (by simp [hl, hr])
  · refine if_neg fun hc => ?_
    simp only [Bool.and_eq_true, decide_eq_true_eq] at hc
    rcases h with h | h
    · exact absurd (h.symm.trans hc.1) Bool.false_ne_true
    · omega
  · intro tag st r unit mode o
    simp [telegramBody, statusTelegram, lenByte, halfBytes, natByte, hiByte_zero, loByte_zero]
  · intro k subject detail
    simp [telegramBody, alertTelegram, lenByte, halfBytes, natByte, hiByte_zero, loByte_zero]
  · intro u command setpoint converter route phase
    simp [telegramBody, unitCommandTelegram, lenByte, halfBytes, natByte, hiByte_zero, loByte_zero, BitVec.ofNat_add]
  · intro c u action
    simp [telegramBody, converterAssignTelegram, lenByte, unitByte, natByte, hiByte_zero, loByte_zero, BitVec.ofNat_add]
  · intro tag request result index data
    simp [telegramBody, answerTelegram, lenByte, halfBytes, natByte, hiByte_zero, loByte_zero, Nat.add_comm 4]
  · rintro rfl
    exact saturate_full

/-! ## Transmission (R153) -/

section

variable {s : State} {p : PortName}

theorem startTransmission_not (h : (s.port p).link = false ∨ (s.port p).transmitting ≠ none) :
    s.startTransmission p = s := by
  refine if_neg fun hm => ?_
  simp only [State.mayTransmit, Bool.and_eq_true, Option.isNone_iff_eq_none] at hm
  rcases h with h | h
  · exact absurd (h.symm.trans hm.1) Bool.false_ne_true
  · exact h hm.2

theorem startTransmission_free (hl : (s.port p).link = true) (ht : (s.port p).transmitting = none) :
    (∀ t rest, (s.port p).originated = t :: rest → s.startTransmission p = s.beginTransmission p .originated t rest) ∧
      (∀ t rest, (s.port p).originated = [] → (s.port p).forwarded = t :: rest →
        s.startTransmission p = s.beginTransmission p .forwarded t rest) ∧
      ((s.port p).originated = [] → (s.port p).forwarded = [] → s.startTransmission p = s) := by
  have hm : s.mayTransmit p = true := by simp [State.mayTransmit, hl, ht]
  unfold State.startTransmission
  rw [if_pos hm]
  exact ⟨fun t rest ho => by rw [ho], fun t rest ho hf => by rw [ho, hf], fun ho hf => by rw [ho, hf]⟩

/-- Which commands stand among the due ones is seen by their own condition. -/
theorem mem_offered {due : Bool} {i j : Instr} : j ∈ State.offered due i ↔ due = true ∧ j = i := by
  cases due <;> simp [State.offered]

theorem transmissionEnd_due : .transmissionEnd p ∈ s.dueCommands ↔ s.transmissionDue p = true := by
  cases p <;>
    simp only [State.dueCommands, List.mem_append, List.mem_flatMap, mem_offered, reduceCtorEq, Instr.transmissionEnd.injEq,
      and_false, exists_false, or_false, false_or, and_true]

end

/-- Settles O13: the transmitter by what its two queues hold. -/
theorem transmitterServesOriginatedFirst : Obligations.TransmitterServesOriginatedFirst := by
  intro p s
  refine ⟨fun hl ht => ?_, fun h => congrArg Host.Outcome.next (startTransmission_not h),
    fun ht => congrArg Host.Outcome.next ?_, fun x hx hans => congrArg Host.Outcome.next ?_, ?_⟩
  · obtain ⟨horiginated, hforwarded, hempty⟩ := startTransmission_free hl ht
    exact ⟨fun t rest ho => congrArg Host.Outcome.next (horiginated t rest ho),
      fun t rest ho hf => congrArg Host.Outcome.next (hforwarded t rest ho hf),
      fun ho hf => congrArg Host.Outcome.next (hempty ho hf)⟩
  · rw [State.endTransmission, ht]
  · rw [State.endTransmission, hx]
    dsimp only
    have hcounted : ∀ t : State, t.resetPending = s.resetPending → t.answerGone p [x.telegram] = t := fun t ht =>
      answerGone_none (by simpa [ht] using hans)
    split
    · next hc =>
      refine (hcounted _ (by simp [State.countSent])).trans ?_
      cases p <;> cases x.queue <;> rfl
    · next hc =>
      rw [hcounted _ (by simp)]
  · rw [transmissionEnd_due, State.transmissionDue]
    cases (s.port p).transmitting <;> simp [State.reached]

/-! ## Foreign telegrams (R135) -/

/-- A command that carries a telegram is the telegram's arrival. -/
theorem exec_of_telegram {c : Instr} {p : PortName} {t : Telegram} (h : c.telegram? = some (p, t)) (s : State) :
    exec c s = .next (s.takeTelegram p t) := by
  cases c <;> simp only [Instr.telegram?, Option.some.injEq, Prod.mk.injEq, reduceCtorEq] at h <;>
    obtain ⟨rfl, rfl⟩ := h <;> rfl

theorem routeOf_foreign {p : PortName} {t : Telegram} (h : DroppedAsForeign p t) : routeOf p t = .foreign := by
  unfold routeOf
  split
  · next h10 =>
    refine if_pos ?_
    rcases h with h | h | h | h | h
    · exact h.2
    · simp only [List.mem_cons, List.not_mem_nil, or_false] at h
      rcases h with h | h | h | h | h | h <;> rw [h] at h10 <;> exact absurd h10 (by decide)
    · omega
    · have hk := h.1
      simp only [List.mem_cons, List.not_mem_nil, or_false] at hk
      rcases hk with hk | hk <;> rw [hk] at h10 <;> exact absurd h10 (by decide)
    · have hk := h.1
      simp only [List.mem_cons, List.not_mem_nil, or_false] at hk
      rcases hk with hk | hk <;> rw [hk] at h10 <;> exact absurd h10 (by decide)
  · next h10 =>
    have kind : ∀ {k : Byte}, t.kind = k → t.kind.toNat = k.toNat := fun e => e ▸ rfl
    cases p with
    | plant =>
      have h1 : ¬ (t.kind = 0x01 ∧ t.dst = 0x01) := by
        rintro ⟨hk, hd⟩
        simp [DroppedAsForeign, hk, hd] at h
      have h3 : ¬ (t.kind = 0x03 ∧ t.dst = 0x01) := by
        rintro ⟨hk, hd⟩
        simp [DroppedAsForeign, hk, hd] at h
      dsimp only
      rw [if_neg h1, if_neg h3]
    | unit =>
      have h6 : ¬ t.kind = 0x06 := by
        intro hk
        simp [DroppedAsForeign, hk] at h
      have h8 : ¬ t.kind = 0x08 := by
        intro hk
        simp [DroppedAsForeign, hk] at h
      dsimp only
      rw [if_neg h6, if_neg h8]

/-- Settles O14: every command that carries a telegram is its arrival, and a foreign one is only counted. -/
theorem foreignTelegramsAreDropped : Obligations.ForeignTelegramsAreDropped := by
  refine ⟨fun c p t s hc => ?_, fun p t s hs hlen hf => congrArg Host.Outcome.next ?_⟩
  · rw [exec_of_telegram hc]
    refine ⟨fun h => congrArg Host.Outcome.next ?_, fun hs hlen => congrArg Host.Outcome.next (takeTelegram_long hs hlen)⟩
    exact if_pos (by simp [State.receives_not h])
  · rw [takeTelegram_up hs hlen, State.routeTelegram, routeOf_foreign hf]
    rfl

/-! ## The guard (R143 to R145) -/

section

variable {s : State} {p : PortName} {t : Telegram} {u : UnitNo}

theorem routeOf_supervisory (hk : 0x10 ≤ t.kind.toNat) (hd : t.dst ≠ 0x01) : routeOf p t = .supervisory := by
  unfold routeOf
  rw [if_pos hk, if_neg hd]

theorem exec_supervisoryTelegram (hs : s.Receives p) (hlen : t.payload.length ≤ 64) (hk : 0x10 ≤ t.kind.toNat)
    (hd : t.dst ≠ 0x01) : exec (.supervisoryTelegram p t) s = .next ((s.heard p t.src).judge p t) := by
  refine congrArg Host.Outcome.next ?_
  rw [takeTelegram_up hs hlen, State.routeTelegram, routeOf_supervisory hk hd]

theorem State.heard_matchTable (src : Byte) : (s.heard p src).matchTable = s.matchTable := by
  unfold State.heard
  dsimp only
  split <;> simp

theorem State.heard_guardTable (src : Byte) : (s.heard p src).guardTable = s.guardTable := by
  unfold State.heard
  dsimp only
  split <;> simp

theorem State.classify_heard (src : Byte) : (s.heard p src).classify p t = s.classify p t := by
  simp [State.classify, State.heard_matchTable]

theorem State.unitAt_heard (src addr : Byte) : (s.heard p src).unitAt addr = s.unitAt addr := by
  simp [State.unitAt, State.unitInService]

theorem State.guardAction_heard (src : Byte) (k : Fin 16) (c : GuardColumn) :
    (s.heard p src).guardAction k c = s.guardAction k c := by
  simp [State.guardAction, State.heard_guardTable]

theorem judge_nonUnit (hu : s.unitAt (State.concerned p t) = none) :
    s.judge p t =
      if s.guardAction (s.classify p t) .nonUnit = .drop then s.countDroppedGuard p 1 else s.forwardTo (otherPort p) t := by
  unfold State.judge
  rw [hu]
  dsimp only
  cases s.guardAction (s.classify p t) .nonUnit <;> rfl

theorem judge_unit (hu : s.unitAt (State.concerned p t) = some u) {a : GuardAction}
    (ha : s.guardAction (s.classify p t) (s.unit u).column = a) :
    (a = .forward → s.judge p t = s.forwardTo (otherPort p) t) ∧ (a = .drop → s.judge p t = s.countDroppedGuard p 1) ∧
      (a = .hold → s.judge p t =
        if p = .plant ∧ (s.unit u).column = .moving then s.hold u p (s.classify p t) t
        else s.forwardTo (otherPort p) t) := by
  unfold State.judge
  rw [hu]
  dsimp only
  rw [ha]
  refine ⟨?_, ?_, ?_⟩ <;> rintro rfl <;> rfl

/-- The telegrams of a hold queue that are judged again: what one that is not dropped adds to the unit port's queue, and
what a dropped one adds to the plant port's counter (R145). -/
theorem foldl_judgeHeld {held : List Held} (hl : s.unitPort.link = true)
    (hroom : s.unitPort.forwarded.length + held.length ≤ 32) (hport : ∀ h ∈ held, h.port = .plant) :
    held.foldl (State.judgeHeld u) s =
      (s.updPort .unit fun q =>
        { q with
          forwarded := q.forwarded ++
            (held.filter fun h => s.guardAction h.cls (s.unit u).column ≠ .drop).map Held.telegram }).updCounters .plant
        fun c =>
          { c with
            droppedGuard := saturate c.droppedGuard
              (held.filter fun h => s.guardAction h.cls (s.unit u).column = .drop).length } := by
  induction held generalizing s with
  | nil => simp [State.updPort, State.updCounters, saturate_zero]
  | cons h held ih =>
    have hp : h.port = .plant := hport h List.mem_cons_self
    have hport' : ∀ x ∈ held, x.port = .plant := fun x hx => hport x (List.mem_cons_of_mem _ hx)
    rw [List.length_cons] at hroom
    rw [List.foldl_cons]
    by_cases ha : s.guardAction h.cls (s.unit u).column = .drop
    · have hstep : State.judgeHeld u s h = s.updCounters .plant fun c =>
          { c with droppedGuard := saturate c.droppedGuard 1 } := by
        simp [State.judgeHeld, ha, hp, State.countDroppedGuard]
      rw [hstep, ih (by exact hl) (by exact Nat.le_of_succ_le hroom) hport', List.filter_cons_of_pos (by simp [ha]),
        List.filter_cons_of_neg (by simp [ha]), List.length_cons, Nat.add_comm]
      simp only [← saturate_saturate]
      rfl
    · have hstep : State.judgeHeld u s h = s.updPort .unit fun q => { q with forwarded := q.forwarded ++ [h.telegram] } := by
        have hforward : s.forwardTo .unit h.telegram =
            s.updPort .unit fun q => { q with forwarded := q.forwarded ++ [h.telegram] } :=
          if_pos ((Bool.and_eq_true _ _).mpr ⟨hl, decide_eq_true (by show s.unitPort.forwarded.length < 32; omega)⟩)
        unfold State.judgeHeld
        rw [hp]
        cases hact : s.guardAction h.cls (s.unit u).column with
        | drop => exact absurd hact ha
        | forward => exact hforward
        | hold => exact hforward
      have hroom' : (s.unitPort.forwarded ++ [h.telegram]).length + held.length ≤ 32 := by
        rw [List.length_append, List.length_singleton]
        omega
      rw [hstep, ih (by exact hl) hroom' hport', List.filter_cons_of_neg (by simp [ha]),
        List.filter_cons_of_pos (by simp [ha]), List.map_cons, State.updPort_updPort]
      simp only [List.append_assoc, List.singleton_append]
      rfl

end

/-- Settles O16: a telegram is judged on the state that its arrival leaves, in which its class, its column and the guard
table are those of the state before. -/
theorem guardForwardsDropsOrHolds : Obligations.GuardForwardsDropsOrHolds := by
  constructor
  · intro p t s hs hlen hk hd s0 k forward drop
    rw [exec_supervisoryTelegram hs hlen hk hd]
    have hforward : s0.forwardTo (otherPort p) t = forward := by cases p <;> rfl
    constructor
    · intro hu
      have hj := judge_nonUnit (s := s0) (p := p) (t := t) (by rwa [State.unitAt_heard])
      rw [State.guardAction_heard, State.classify_heard, hforward] at hj
      exact ⟨fun ha => congrArg _ (hj.trans (if_pos ha)), fun ha => congrArg _ (hj.trans (if_neg ha))⟩
    · intro u hu a
      have hu0 : s0.unitAt (State.concerned p t) = some u := by rwa [State.unitAt_heard]
      have ha0 : s0.guardAction (s0.classify p t) (s0.unit u).column = a := by
        rw [State.guardAction_heard, State.classify_heard, State.unit_heard]
        rfl
      obtain ⟨hforwards, hdrops, hholds⟩ := judge_unit hu0 ha0
      rw [hforward, State.classify_heard, State.unit_heard] at hholds
      rw [hforward] at hforwards
      refine ⟨fun ha => congrArg _ (hdrops ha), fun ha => congrArg _ ?_, fun ha hp hc => ?_⟩
      · rcases ha with ha | ⟨ha, hnot⟩
        · exact hforwards ha
        · refine (hholds ha).trans (if_neg ?_)
          rintro ⟨rfl, hc⟩
          exact hnot.elim nofun fun h => h hc
      · rw [hholds ha, if_pos ⟨hp, hc⟩]
        unfold State.hold
        rw [State.unit_heard]
        subst hp
        exact ⟨fun h4 => by rw [if_pos h4], fun h4 => by rw [if_neg (by omega)]; rfl⟩
  · intro u s hl hroom hport column dropped passed
    unfold State.rejudge
    dsimp only
    rw [foldl_judgeHeld (by exact hl) (by exact hroom) hport]
    simp only [State.guardAction, State.updUnit_guardTable, State.unit_updUnit_self]
    rfl

end Sys2Proof.Machine
end

section
/-!
PROOFS. What claims and transitions leave of the units, the tables and the control of the block, and where nothing waits: the
lemmas that the statements about units, transitions and the dispatcher share.
-/

namespace Sys2Proof.Machine

/-! ## What every change of claims and transitions leaves -/

/-- The tables and links, what the Unit Monitor keeps, the alarms, the reserve lines and the dispatcher are the same. -/
structure Keeps (s t : State) : Prop where
  tables : s.KeepsTablesAndLinks t
  units : ∀ u, s.KeepsUnit u t
  alarms : s.KeepsAlarms t
  dispatcher : t.dispatcher = s.dispatcher
  program : t.program = s.program
  masterDeadline : t.masterDeadline = s.masterDeadline
  masterSilenceSeen : t.masterSilenceSeen = s.masterSilenceSeen
  reserveA : t.reserveA = s.reserveA
  reserveB : t.reserveB = s.reserveB
  lines : t.lines = s.lines

theorem keepsUnit_refl (u : UnitNo) (s : State) : s.KeepsUnit u s := ⟨rfl, rfl, rfl, rfl, rfl, rfl, rfl, rfl, rfl⟩

theorem keepsTables_refl (s : State) : s.KeepsTablesAndLinks s :=
  ⟨rfl, rfl, rfl, rfl, rfl, rfl, rfl, rfl, rfl, fun _ => ⟨rfl, rfl, rfl, rfl⟩, fun _ => ⟨rfl, rfl, rfl, rfl, rfl⟩⟩

theorem keepsAlarms_refl (s : State) : s.KeepsAlarms s := fun _ => ⟨rfl, rfl, rfl, rfl⟩

theorem KeepsUnit.trans {u : UnitNo} {s t v : State} (h : s.KeepsUnit u t) (h' : t.KeepsUnit u v) : s.KeepsUnit u v := by
  obtain ⟨h1, h2, h3, h4, h5, h6, h7, h8, h9⟩ := h
  obtain ⟨k1, k2, k3, k4, k5, k6, k7, k8, k9⟩ := h'
  exact ⟨k1.trans h1, k2.trans h2, k3.trans h3, k4.trans h4, k5.trans h5, k6.trans h6, k7.trans h7, k8.trans h8,
    k9.trans h9⟩

theorem KeepsTables.trans {s t v : State} (h : s.KeepsTablesAndLinks t) (h' : t.KeepsTablesAndLinks v) :
    s.KeepsTablesAndLinks v := by
  obtain ⟨h1, h2, h3, h4, h5, h6, h7, h8, h9, hport, hduty⟩ := h
  obtain ⟨k1, k2, k3, k4, k5, k6, k7, k8, k9, kport, kduty⟩ := h'
  refine ⟨k1.trans h1, k2.trans h2, k3.trans h3, k4.trans h4, k5.trans h5, k6.trans h6, k7.trans h7, k8.trans h8,
    k9.trans h9, fun p => ?_, fun u => ?_⟩
  · obtain ⟨p1, p2, p3, p4⟩ := hport p
    obtain ⟨q1, q2, q3, q4⟩ := kport p
    exact ⟨q1.trans p1, q2.trans p2, q3.trans p3, q4.trans p4⟩
  · obtain ⟨d1, d2, d3, d4, d5⟩ := hduty u
    obtain ⟨e1, e2, e3, e4, e5⟩ := kduty u
    exact ⟨e1.trans d1, e2.trans d2, e3.trans d3, e4.trans d4, e5.trans d5⟩

theorem KeepsAlarms.trans {s t v : State} (h : s.KeepsAlarms t) (h' : t.KeepsAlarms v) : s.KeepsAlarms v := by
  intro w
  obtain ⟨h1, h2, h3, h4⟩ := h w
  obtain ⟨k1, k2, k3, k4⟩ := h' w
  exact ⟨k1.trans h1, k2.trans h2, k3.trans h3, k4.trans h4⟩

namespace Keeps

theorem refl (s : State) : Keeps s s :=
  ⟨keepsTables_refl s, fun u => keepsUnit_refl u s, keepsAlarms_refl s, rfl, rfl, rfl, rfl, rfl, rfl, rfl⟩

theorem trans {s t v : State} (h : Keeps s t) (h' : Keeps t v) : Keeps s v where
  tables := KeepsTables.trans h.tables h'.tables
  units u := KeepsUnit.trans (h.units u) (h'.units u)
  alarms := KeepsAlarms.trans h.alarms h'.alarms
  dispatcher := h'.dispatcher.trans h.dispatcher
  program := h'.program.trans h.program
  masterDeadline := h'.masterDeadline.trans h.masterDeadline
  masterSilenceSeen := h'.masterSilenceSeen.trans h.masterSilenceSeen
  reserveA := h'.reserveA.trans h.reserveA
  reserveB := h'.reserveB.trans h.reserveB
  lines := h'.lines.trans h.lines

variable {s : State}

/-- A port whose queues and counters change keeps its link and its transmitter. -/
theorem updPort (p : PortName) {f : PortState → PortState}
    (hf : ∀ q, (f q).link = q.link ∧ (f q).linkOk = q.linkOk ∧ (f q).linkFilter = q.linkFilter ∧
      (f q).transmitting = q.transmitting) : Keeps s (s.updPort p f) := by
  refine ⟨⟨by simp, by simp, by simp, by simp, by simp, by simp, by simp, by simp, by simp, fun q => ?_, fun u => ?_⟩,
    fun u => ?_, fun w => ?_, by simp, by simp, by simp, by simp, by simp, by simp, by simp⟩
  · by_cases h : q = p
    · subst h
      rw [State.port_updPort_self]
      exact hf _
    · rw [State.port_updPort_of_ne _ h]
      exact ⟨rfl, rfl, rfl, rfl⟩
  · rw [State.dutyOf_updPort]
    exact ⟨rfl, rfl, rfl, rfl, rfl⟩
  · unfold State.KeepsUnit
    rw [State.unit_updPort]
    exact ⟨rfl, rfl, rfl, rfl, rfl, rfl, rfl, rfl, rfl⟩
  · rw [State.waterway_updPort]
    exact ⟨rfl, rfl, rfl, rfl⟩

theorem updCounters (p : PortName) (f : Counters → Counters) : Keeps s (s.updCounters p f) :=
  updPort p fun _ => ⟨rfl, rfl, rfl, rfl⟩

theorem originate (p : PortName) (t : Telegram) : Keeps s (s.originate p t) := by
  unfold State.originate
  split
  · exact updPort p fun _ => ⟨rfl, rfl, rfl, rfl⟩
  · exact updCounters p _

theorem forwardTo (p : PortName) (t : Telegram) : Keeps s (s.forwardTo p t) := by
  unfold State.forwardTo
  split
  · exact updPort p fun _ => ⟨rfl, rfl, rfl, rfl⟩
  · exact updCounters p _

theorem updUnit {u : UnitNo} {f : UnitRecord → UnitRecord} (hf : ∀ v, s.KeepsUnit v (s.updUnit u f)) :
    Keeps s (s.updUnit u f) :=
  ⟨⟨rfl, rfl, rfl, rfl, rfl, rfl, rfl, rfl, rfl, fun p => by simp, fun _ => ⟨rfl, rfl, rfl, rfl, rfl⟩⟩, hf,
    keepsAlarms_refl s, rfl, rfl, rfl, rfl, rfl, rfl, rfl⟩

theorem updDuty {u : UnitNo} {f : Duty → Duty} (hf : CountStep (s.dutyOf u) (f (s.dutyOf u))) :
    Keeps s (s.updDuty u f) := by
  refine ⟨⟨rfl, rfl, rfl, rfl, rfl, rfl, rfl, rfl, rfl, fun p => by simp, fun v => ?_⟩, fun u => keepsUnit_refl u s,
    keepsAlarms_refl s, rfl, rfl, rfl, rfl, rfl, rfl, rfl⟩
  by_cases h : v = u
  · subst h
    rw [State.dutyOf_updDuty_self]
    exact ⟨hf.event, hf.enable, hf.notify, hf.freezeOnOverflow, hf.accumulator⟩
  · rw [State.dutyOf_updDuty_of_ne _ h]
    exact ⟨rfl, rfl, rfl, rfl, rfl⟩

theorem updWaterway {w : WaterwayNo} {f : Waterway → Waterway} (hf : WindowStep (s.waterway w) (f (s.waterway w))) :
    Keeps s (s.updWaterway w f) := by
  refine ⟨⟨rfl, rfl, rfl, rfl, rfl, rfl, rfl, rfl, rfl, fun p => by simp, fun _ => ⟨rfl, rfl, rfl, rfl, rfl⟩⟩,
    fun u => keepsUnit_refl u s, fun v => ?_, rfl, rfl, rfl, rfl, rfl, rfl, rfl⟩
  by_cases h : v = w
  · subst h
    rw [State.waterway_updWaterway_self]
    exact ⟨hf.alarm, hf.alarmSeen, hf.silenceDeadline, hf.lastLevel⟩
  · rw [State.waterway_updWaterway_of_ne _ h]
    exact ⟨rfl, rfl, rfl, rfl⟩

/-- A change of the orders, the ages, the converters, their wait list or the serial alone. -/
theorem queues {orders ageCount converters converterWait requestSerial} :
    Keeps s { s with
      orders := orders, ageCount := ageCount, converters := converters, converterWait := converterWait
      requestSerial := requestSerial } :=
  ⟨⟨rfl, rfl, rfl, rfl, rfl, rfl, rfl, rfl, rfl, fun p => by cases p <;> exact ⟨rfl, rfl, rfl, rfl⟩,
    fun _ => ⟨rfl, rfl, rfl, rfl, rfl⟩⟩, fun u => keepsUnit_refl u s, keepsAlarms_refl s, rfl, rfl, rfl, rfl, rfl, rfl, rfl⟩

theorem inner {u : UnitNo} {f : UnitRecord → UnitRecord} (hf : ∀ r, InnerStep r (f r)) : Keeps s (s.updUnit u f) := by
  refine updUnit fun v => ?_
  by_cases h : v = u
  · subst h
    unfold State.KeepsUnit
    rw [State.unit_updUnit_self]
    have h := hf (s.unit v)
    exact ⟨h.mode, h.configuredOut, h.outInput, h.tripInput, h.silent, h.silenceDeadline, h.lastReport, h.tripSeen,
      h.outDebounce⟩
  · unfold State.KeepsUnit
    rw [State.unit_updUnit_of_ne _ h]
    exact ⟨rfl, rfl, rfl, rfl, rfl, rfl, rfl, rfl, rfl⟩

end Keeps

theorem inert_keeps : Inert Keeps where
  refl := Keeps.refl
  trans := Keeps.trans
  inner _ _ _ hf := Keeps.inner hf
  count _ _ _ hf := Keeps.updDuty (hf _)
  window _ _ _ hf := Keeps.updWaterway (hf _)
  converter _ _ _ := Keeps.queues
  converterWait _ _ := Keeps.queues
  serial _ _ := Keeps.queues
  orders _ _ _ := Keeps.queues
  append _ _ _ := Keeps.queues
  originate _ p t := Keeps.originate p t
  forwardTo _ p t := Keeps.forwardTo p t
  dropped _ p _ := Keeps.updCounters p _

namespace Keeps

variable {s t : State}

theorem mode (h : Keeps s t) (u : UnitNo) : (t.unit u).mode = (s.unit u).mode := (h.units u).1

theorem plan (h : Keeps s t) : t.plan = s.plan := h.tables.1

theorem now (h : Keeps s t) : t.now = s.now := by
  obtain ⟨_, _, _, _, hnow, _⟩ := h.tables
  exact hnow

end Keeps

namespace State

variable {s : State} {u : UnitNo}

/-! ## Single records -/

theorem updUnit_congr {f g : UnitRecord → UnitRecord} (h : f (s.unit u) = g (s.unit u)) : s.updUnit u f = s.updUnit u g :=
  congrArg (fun r => { s with units := s.units.set u.val r }) h

theorem updUnit_eq_self {f : UnitRecord → UnitRecord} (h : f (s.unit u) = s.unit u) : s.updUnit u f = s := by
  have hid : s.updUnit u (fun r => r) = s := by simp [updUnit]
  exact (updUnit_congr (g := fun r => r) h).trans hid

theorem originate_updUnit (f : UnitRecord → UnitRecord) (p : PortName) (t : Telegram) :
    (s.updUnit u f).originate p t = (s.originate p t).updUnit u f := by
  have hcan : (s.updUnit u f).canOriginate p = s.canOriginate p := by simp [canOriginate]
  unfold originate
  rw [hcan]
  split <;> cases p <;> rfl

theorem unit_dutyEvent (e : DutyEvent) (w v : UnitNo) : (s.dutyEvent e w).unit v = s.unit v := (Counted.dutyEvent e).unit v

theorem unit_sendAlert (k : AlertKind) (subject : Byte) (detail : Half) (v : UnitNo) :
    (s.sendAlert k subject detail).unit v = s.unit v := unit_originate ..

theorem unit_changeMode (m : UnitMode) (v : UnitNo) :
    (s.changeMode u m).unit v = if v = u then { s.unit v with mode := m } else s.unit v := by
  unfold changeMode
  dsimp only
  split
  · exact unit_updUnit _ u v _
  · split
    · rw [unit_dutyEvent]
      exact unit_updUnit _ u v _
    · exact unit_updUnit _ u v _

theorem unit_changeMode_self (m : UnitMode) : (s.changeMode u m).unit u = { s.unit u with mode := m } := by
  rw [unit_changeMode, if_pos rfl]

theorem changeMode_quiet {m : UnitMode} (h : entryEvent m = none) :
    s.changeMode u m = s.updUnit u fun r => { r with mode := m } := by
  unfold changeMode
  rw [h]
  exact ite_self _

theorem unit_foldl_updWaterway (f : Waterway → Waterway) (ws : List WaterwayNo) (v : UnitNo) :
    (ws.foldl (fun t w => t.updWaterway w f) s).unit v = s.unit v := by
  induction ws generalizing s with
  | nil => rfl
  | cons w ws ih =>
    rw [List.foldl_cons, ih]
    rfl

theorem unit_withdrawEntry (v : UnitNo) : (s.withdrawEntry u).unit v = s.unit v := unit_foldl_updWaterway _ _ v

/-! ## Where nothing waits -/

/-- Neither a reserve claim nor an order waits for unit u. -/
theorem takenClaim_none (hr : (s.unit u).reserveClaim = none) (ho : s.orders = []) : s.takenClaim u = none := by
  unfold takenClaim
  rw [hr, ho]
  rfl

theorem poolPass_of_nil (ho : s.orders = []) : s.poolPass = s := by
  have hw : poolWalk s.orders.length 0 false s = (s, false) := by
    rw [ho]
    rfl
  unfold poolPass poolLoop
  rw [hw]

/-- A start attempt does nothing for a unit with no claim where no order waits. -/
theorem startAttempt_idle (hr : (s.unit u).reserveClaim = none) (ho : s.orders = []) : s.startAttempt u = s := by
  have hatt : (s.attemptUnit u).1 = s := by
    unfold attemptUnit attemptLoop
    dsimp only
    rw [takenClaim_none hr ho]
    split
    · split <;> rfl
    all_goals rfl
  rw [startAttempt, hatt, poolPass_of_nil ho]

theorem waitingFails_idle {spared : Option CutName} {r : Reason} (hr : (s.unit u).reserveClaim = none)
    (ho : s.orders = []) : s.waitingFails u spared r = s := by
  unfold waitingFails
  rw [hr, ho]
  change { s with orders := [] } = s
  rw [← ho]

/-! ## The end of a drain (R126) -/

theorem drainCheck_of_not_draining (h : s.dispatcher ≠ .draining) : s.drainCheck = s := if_neg fun hd => h hd.1

/-- While something is in flight or pending, the drain goes on. -/
theorem drainCheck_of_left (h : (s.unit u).transition ≠ none ∨ (s.unit u).reserveClaim ≠ none) : s.drainCheck = s := by
  refine if_neg fun hd => ?_
  obtain ⟨ht, hr⟩ := nothingLeft_iff.mp hd.2 u
  exact h.elim (fun h => h ht) fun h => h hr

theorem drainCheck_of_sound (h : s.DispatcherStateSound) : s.drainCheck = s := by
  by_cases hd : s.dispatcher = .draining
  · obtain ⟨v, hv⟩ := (h.2 hd).2
    exact drainCheck_of_left hv
  · exact drainCheck_of_not_draining hd

theorem unit_drainCheck (v : UnitNo) : s.drainCheck.unit v = s.unit v := by
  unfold drainCheck
  split
  · exact unit_sendAlert ..
  · rfl

theorem orders_drainCheck : s.drainCheck.orders = s.orders := by
  unfold drainCheck
  split
  · exact originate_orders ..
  · rfl

/-! ## A unit whose mode is not settled is left alone -/

end State

/-- A unit with no transition in flight has none afterwards, and its claim and its hold queue are as they were. -/
def LeftAlone (u : UnitNo) (s t : State) : Prop :=
  (s.unit u).transition = none → (t.unit u).transition = none ∧ (t.unit u).reserveClaim = (s.unit u).reserveClaim ∧
    (t.unit u).holdQueue = (s.unit u).holdQueue

theorem LeftAlone.trans {u : UnitNo} {s t v : State} (h : LeftAlone u s t) (h' : LeftAlone u t v) : LeftAlone u s v := by
  intro hs
  obtain ⟨ht, hr, hh⟩ := h hs
  obtain ⟨hv, hr', hh'⟩ := h' ht
  exact ⟨hv, hr'.trans hr, hh'.trans hh⟩

theorem LeftAlone.of_unit {u : UnitNo} {s t : State} (h : t.unit u = s.unit u) : LeftAlone u s t := by
  intro hs
  rw [h]
  exact ⟨hs, rfl, rfl⟩

theorem LeftAlone.refl (u : UnitNo) (s : State) : LeftAlone u s s := .of_unit rfl

theorem Quiet.leftAlone {s t : State} (h : Quiet s t) (u : UnitNo) : LeftAlone u s t := by
  cases h with
  | same h => exact fun hs => ⟨(h.transition u).trans hs, h.reserveClaim u, h.holdQueue u⟩
  | port p f hf => exact .of_unit (State.unit_updPort ..)
  | transition v f =>
    intro hs
    unfold State.updTransition
    rw [State.unit_updUnit]
    split
    · exact ⟨by rw [hs]; rfl, rfl, rfl⟩
    · exact ⟨hs, rfl, rfl⟩
  | hold v x ht hl =>
    intro hs
    have hne : u ≠ v := fun e => ht (e ▸ hs)
    exact LeftAlone.of_unit (State.unit_updUnit_of_ne _ hne _) hs

theorem Calm.leftAlone {s t : State} (h : Calm s t) (u : UnitNo) : LeftAlone u s t := by
  induction h with
  | refl => exact .refl u s
  | tail _ hq ih => exact ih.trans (hq.leftAlone u)

namespace State

variable {s : State} {u : UnitNo}

theorem leftAlone_removeClaim {v : UnitNo} (hne : u ≠ v) (slot : Slot) : LeftAlone u s (s.removeClaim v slot) := by
  cases slot with
  | reserve => exact .of_unit (unit_updUnit_of_ne _ hne _)
  | queue k => exact .refl u s

/-- A start attempt for another unit leaves unit u alone, and the attempt for u itself takes nothing while its mode is not
settled. -/
theorem leftAlone_attemptLoop (fuel : Nat) (v : UnitNo) (hm : ∀ m, (s.unit u).mode ≠ .settled m) :
    LeftAlone u s (attemptLoop fuel v s).1 := by
  induction fuel generalizing s with
  | zero => exact .refl u s
  | succ fuel ih =>
    unfold attemptLoop
    extract_lets r
    split
    · next m hmode =>
      have hne : u ≠ v := fun e => hm m (e ▸ hmode)
      split
      · exact .refl u s
      · split
        · exact .refl u s
        · next slot c ht =>
          split
          · have hkeeps : Keeps s (s.completeAtOnce v slot c) := inert_keeps.completeAtOnce (inert_keeps.refl s)
            have hdone : LeftAlone u s (s.completeAtOnce v slot c) :=
              (calm_settleSetpoint _ _).leftAlone u |>.trans (leftAlone_removeClaim hne slot) |>.trans
                ((calm_originate _).leftAlone u)
            exact hdone.trans (ih fun m => by rw [hkeeps.mode]; exact hm m)
          · split
            · have hkeeps : Keeps s (s.failNoRoute v slot c) := inert_keeps.failNoRoute (inert_keeps.refl s)
              have hfail : LeftAlone u s (s.failNoRoute v slot c) :=
                (leftAlone_removeClaim hne slot).trans ((calm_originate _).leftAlone u)
              exact hfail.trans (ih fun m => by rw [hkeeps.mode]; exact hm m)
            · unfold startClaim
              extract_lets s1 s2 s3
              have h2 : LeftAlone u s1 s2 := .of_unit (unit_updUnit_of_ne _ hne _)
              exact ((leftAlone_removeClaim hne slot).trans h2).trans
                (((calm_originate _).trans (calm_phaseStart _)).leftAlone u)
    all_goals exact .refl u s

theorem leftAlone_attemptUnit (v : UnitNo) (hm : ∀ m, (s.unit u).mode ≠ .settled m) :
    LeftAlone u s (s.attemptUnit v).1 := leftAlone_attemptLoop _ v hm

theorem leftAlone_poolWalk (fuel k : Nat) (progress : Bool) (hm : ∀ m, (s.unit u).mode ≠ .settled m) :
    LeftAlone u s (poolWalk fuel k progress s).1 := by
  induction fuel generalizing k progress s with
  | zero => exact .refl u s
  | succ fuel ih =>
    unfold poolWalk
    split
    · exact .refl u s
    · split
      · exact ih _ _ hm
      · next v _ =>
        have hatt := leftAlone_attemptUnit v hm
        have hkeeps : Keeps s (s.attemptUnit v).1 := inert_keeps.attemptUnit (inert_keeps.refl s)
        have hm' : ∀ m, ((s.attemptUnit v).1.unit u).mode ≠ .settled m := fun m => by rw [hkeeps.mode]; exact hm m
        split <;> next heq => rw [heq] at hatt hm'; exact hatt.trans (ih _ _ hm')

theorem leftAlone_poolLoop (fuel : Nat) (hm : ∀ m, (s.unit u).mode ≠ .settled m) : LeftAlone u s (poolLoop fuel s) := by
  induction fuel generalizing s with
  | zero => exact .refl u s
  | succ fuel ih =>
    have hwalk := leftAlone_poolWalk s.orders.length 0 false hm
    have hkeeps : Keeps s (poolWalk s.orders.length 0 false s).1 := inert_keeps.poolWalk (inert_keeps.refl s)
    unfold poolLoop
    split
    · next heq =>
      rw [heq] at hwalk hkeeps
      exact hwalk.trans (ih fun m => by rw [hkeeps.mode]; exact hm m)
    · next heq =>
      rw [heq] at hwalk
      exact hwalk

theorem leftAlone_startAttempt (v : UnitNo) (hm : ∀ m, (s.unit u).mode ≠ .settled m) :
    LeftAlone u s (s.startAttempt v) := by
  have hkeeps : Keeps s (s.attemptUnit v).1 := inert_keeps.attemptUnit (inert_keeps.refl s)
  exact (leftAlone_attemptUnit v hm).trans (leftAlone_poolLoop _ fun m => by rw [hkeeps.mode]; exact hm m)

end State

end Sys2Proof.Machine
end

section
/-!
PROOFS. Chapter 1: unit reports, recognition, trips, the OUT lines and the silence timers (R4 to R19, R100).
-/

namespace Sys2Proof.Machine

/-! ## Recognition (R4, R5) -/

theorem wordMatches_iff {w value mask : Word} : wordMatches w value mask = true ↔ w &&& mask = value &&& mask := by
  rw [wordMatches, decide_eq_true_eq, masked_xor_eq_zero_iff]

theorem not_wordMatches {w value mask : Word} (h : w &&& mask ≠ value &&& mask) : wordMatches w value mask = false :=
  Bool.eq_false_iff.mpr fun hm => h (wordMatches_iff.mp hm)

theorem Recognition.hits_iff {e : Recognition} {u : UnitNo} {w : Word} :
    e.hits u w = true ↔ e.enabled = true ∧ e.units.getLsbD u.val = true ∧ w &&& e.mask = e.value &&& e.mask := by
  simp only [Recognition.hits, Bool.and_eq_true, wordMatches_iff, hasUnit, and_assoc]

/-- Of a list of all indices, `findSome?` takes the lowest one that answers. -/
theorem findSome?_finRange {α : Type} {n : Nat} {f : Fin n → Option α} {i : Fin n} {a : α} (hi : f i = some a)
    (hbefore : ∀ j, j < i → f j = none) : (List.finRange n).findSome? f = some a := by
  have hsplit : List.finRange n = (List.finRange n).take i.val ++ i :: (List.finRange n).drop (i.val + 1) := by
    have hcons : (List.finRange n).drop i.val = i :: (List.finRange n).drop (i.val + 1) := by
      rw [List.drop_eq_getElem_cons (by simp), List.getElem_finRange]
      rfl
    rw [← hcons, List.take_append_drop]
  refine List.findSome?_eq_some_iff.mpr ⟨_, i, _, hsplit, hi, fun x hx => hbefore x ?_⟩
  obtain ⟨k, hk, rfl⟩ := List.mem_take_iff_getElem.mp hx
  rw [Fin.lt_def, List.getElem_finRange]
  exact Nat.lt_of_lt_of_le hk (Nat.min_le_left _ _)

namespace State

variable {s : State} {u : UnitNo} {w : Word}

theorem tripEntry_eq_some_iff {i : Fin 12} : s.tripEntry u w = some i ↔
    (s.plan.recognition[i.val].mode = 5 ∧ s.plan.recognition[i.val].hits u w = true) ∧
      ∀ j, j < i → ¬ (s.plan.recognition[j.val].mode = 5 ∧ s.plan.recognition[j.val].hits u w = true) := by
  unfold tripEntry
  rw [← Fin.find?_eq_find?_finRange, Fin.find?_eq_some_iff]
  simp only [Bool.and_eq_true, decide_eq_true_eq, Bool.eq_false_iff, ne_eq]

theorem tripEntry_eq_none_iff : s.tripEntry u w = none ↔
    ∀ j : Fin 12, ¬ (s.plan.recognition[j.val].mode = 5 ∧ s.plan.recognition[j.val].hits u w = true) := by
  unfold tripEntry
  rw [← Fin.find?_eq_find?_finRange, Fin.find?_eq_none_iff]
  simp only [Bool.and_eq_true, decide_eq_true_eq, Bool.eq_false_iff, ne_eq]

end State

theorem modeOf_natByte {k : Nat} {m : Mode} (h : (modeCode m).toNat = k) : modeOf (natByte k) = some m := by
  subst h
  cases m <;> rfl

theorem modeOf_natByte_none {k : Fin 16} (h : 4 < k.val) : modeOf (natByte k.val) = none := by
  refine modeOf_eq_none ?_
  have hk := k.isLt
  simp only [natByte, BitVec.toNat_ofNat]
  omega


namespace State

variable {s : State} {u : UnitNo} {w : Word}

/-- The first trip entry that hits is the result, whatever the unit does. -/
theorem recognise_trip {i : Fin 12} (hmode : s.plan.recognition[i.val].mode = 5)
    (hhit : s.plan.recognition[i.val].hits u w = true)
    (hbefore : ∀ j, j < i → ¬ (s.plan.recognition[j.val].mode = 5 ∧ s.plan.recognition[j.val].hits u w = true)) :
    s.recognise u w = .trip i := by
  unfold recognise
  rw [tripEntry_eq_some_iff.mpr ⟨⟨hmode, hhit⟩, hbefore⟩]

theorem recognise_untripped
    (h : ∀ j : Fin 12, ¬ (s.plan.recognition[j.val].mode = 5 ∧ s.plan.recognition[j.val].hits u w = true)) :
    ((s.unit u).transition ≠ none → s.recognise u w = .none) ∧
      ((s.unit u).transition = none → (∀ m, s.modeEntry u w = some m → s.recognise u w = .mode m) ∧
        (s.modeEntry u w = none → s.recognise u w = .none)) := by
  unfold recognise
  rw [tripEntry_eq_none_iff.mpr h]
  refine ⟨fun ht => if_pos (Option.isSome_iff_ne_none.mpr ht), fun ht => ?_⟩
  rw [ht]
  exact ⟨fun m hm => by simp [hm], fun hm => by simp [hm]⟩

theorem modeEntry_eq_some {i : Fin 12} {m : Mode} (hhit : s.plan.recognition[i.val].hits u w = true)
    (hm : (modeCode m).toNat = s.plan.recognition[i.val].mode.val)
    (hbefore : ∀ j, j < i → s.plan.recognition[j.val].hits u w = true → 4 < s.plan.recognition[j.val].mode.val) :
    s.modeEntry u w = some m := by
  refine findSome?_finRange ((if_pos hhit).trans (modeOf_natByte hm)) fun j hj => ?_
  split
  · next h => exact modeOf_natByte_none (hbefore j hj h)
  · rfl

theorem modeEntry_eq_none
    (h : ∀ j : Fin 12, s.plan.recognition[j.val].hits u w = true → 4 < s.plan.recognition[j.val].mode.val) :
    s.modeEntry u w = none := by
  refine List.findSome?_eq_none_iff.mpr fun j _ => ?_
  split
  · next hj => exact modeOf_natByte_none (h j hj)
  · rfl

end State

/-! ## What a report changes -/

/-- An event of unit u that its recognition makes: every other unit, the tables, the alarms and the control of the block
are as they were, and so are the silence and the report of u. -/
structure Judged (u : UnitNo) (s t : State) : Prop where
  tables : s.KeepsTablesAndLinks t
  units : ∀ v, v ≠ u → s.KeepsUnit v t
  alarms : s.KeepsAlarms t
  dispatcher : t.dispatcher = s.dispatcher
  program : t.program = s.program
  masterSilenceSeen : t.masterSilenceSeen = s.masterSilenceSeen
  reserveA : t.reserveA = s.reserveA
  reserveB : t.reserveB = s.reserveB
  silent : (t.unit u).silent = (s.unit u).silent
  silenceDeadline : (t.unit u).silenceDeadline = (s.unit u).silenceDeadline
  lastReport : (t.unit u).lastReport = (s.unit u).lastReport

theorem Keeps.judged {s t : State} (h : Keeps s t) (u : UnitNo) : Judged u s t := by
  obtain ⟨_, _, _, _, hsilent, hdeadline, hreport, _⟩ := h.units u
  exact ⟨h.tables, fun v _ => h.units v, h.alarms, h.dispatcher, h.program, h.masterSilenceSeen, h.reserveA, h.reserveB,
    hsilent, hdeadline, hreport⟩

namespace Judged

variable {u : UnitNo} {s t v : State}

theorem trans (h : Judged u s t) (h' : Judged u t v) : Judged u s v where
  tables := KeepsTables.trans h.tables h'.tables
  units w hw := KeepsUnit.trans (h.units w hw) (h'.units w hw)
  alarms := KeepsAlarms.trans h.alarms h'.alarms
  dispatcher := h'.dispatcher.trans h.dispatcher
  program := h'.program.trans h.program
  masterSilenceSeen := h'.masterSilenceSeen.trans h.masterSilenceSeen
  reserveA := h'.reserveA.trans h.reserveA
  reserveB := h'.reserveB.trans h.reserveB
  silent := h'.silent.trans h.silent
  silenceDeadline := h'.silenceDeadline.trans h.silenceDeadline
  lastReport := h'.lastReport.trans h.lastReport

/-- The end of a chain of changes may be one that keeps everything. -/
theorem keeps (h : Judged u s t) (h' : Keeps t v) : Judged u s v := h.trans (h'.judged u)

theorem updUnit {f : UnitRecord → UnitRecord}
    (hf : (f (s.unit u)).silent = (s.unit u).silent ∧ (f (s.unit u)).silenceDeadline = (s.unit u).silenceDeadline ∧
      (f (s.unit u)).lastReport = (s.unit u).lastReport) : Judged u s (s.updUnit u f) := by
  refine ⟨⟨rfl, rfl, rfl, rfl, rfl, rfl, rfl, rfl, rfl, fun p => by simp, fun _ => ⟨rfl, rfl, rfl, rfl, rfl⟩⟩,
    fun v hv => ?_, keepsAlarms_refl s, rfl, rfl, rfl, rfl, rfl, ?_, ?_, ?_⟩
  · unfold State.KeepsUnit
    rw [State.unit_updUnit_of_ne _ hv]
    exact ⟨rfl, rfl, rfl, rfl, rfl, rfl, rfl, rfl, rfl⟩
  all_goals rw [State.unit_updUnit_self]
  · exact hf.1
  · exact hf.2.1
  · exact hf.2.2

theorem changeMode (m : UnitMode) : Judged u s (s.changeMode u m) := by
  unfold State.changeMode
  extract_lets old s1
  have h1 : Judged u s s1 := updUnit ⟨rfl, rfl, rfl⟩
  split
  · exact h1
  · split
    · exact h1.keeps (inert_keeps.dutyEvent (inert_keeps.refl s1))
    · exact h1

theorem trippedBy (d : Half) : Judged u s (s.trippedBy u d) := by
  rw [← State.enterTripped_eq]
  unfold State.enterTripped
  extract_lets keep
  have h1 : Judged u s (s.updUnit u fun r => { r with tripSeen := true }) := updUnit ⟨rfl, rfl, rfl⟩
  exact (h1.trans (changeMode _)).keeps (inert_keeps.reportTrip (inert_keeps.failReserve (inert_keeps.failQueued
    (inert_keeps.endTransition (inert_keeps.refl _)))))

theorem tripEvent (d : Half) : Judged u s (s.tripEvent u d) := by
  unfold State.tripEvent
  extract_lets s1
  have h1 : Judged u s s1 := updUnit ⟨rfl, rfl, rfl⟩
  have hentered : Judged u s (s1.enterTripped u d) := by
    unfold s1
    rw [State.enterTripped_eq]
    exact trippedBy d
  split
  · exact h1
  · exact h1.keeps (inert_keeps.reportTrip (inert_keeps.refl s1))
  · exact hentered
  · exact hentered

theorem land (x : Phase) : Judged u s (s.land u x) := by
  unfold State.land
  extract_lets s1 s2 s3
  have h1 : Keeps s s1 := by
    unfold s1
    split
    · exact .refl s
    · exact inert_keeps.releaseConverter (inert_keeps.refl s)
  have h2 : Keeps s s2 := by
    unfold s2
    split
    · exact h1
    · exact inert_keeps.releaseWindow h1
  exact ((inert_keeps.updTransition h2).judged u).trans (changeMode _)

theorem completePhase : Judged u s (s.completePhase u) := by
  unfold State.completePhase
  split
  · exact (Keeps.refl s).judged u
  · extract_lets s1
    have h1 : Judged u s s1 := land _
    split
    · exact h1.keeps (inert_keeps.endTransition (inert_keeps.refl s1))
    · split
      · exact h1.keeps (inert_keeps.endTransition (inert_keeps.settleSetpoint (inert_keeps.refl s1)))
      · exact h1.keeps (inert_keeps.phaseStart (inert_keeps.refl s1))

theorem reportAtRest (w : Word) : Judged u s (s.reportAtRest u w).1 := by
  unfold State.reportAtRest
  split
  · exact tripEvent _
  · exact (Keeps.refl s).judged u
  · dsimp only
    split
    · exact changeMode _
    · split
      · exact (Keeps.refl s).judged u
      · exact (changeMode _).keeps (inert_keeps.sendAlert (inert_keeps.refl _))

theorem reportMoving (x : Transition) (w : Word) : Judged u s (s.reportMoving u x w).1 := by
  unfold State.reportMoving
  split
  · exact tripEvent _
  · exact (Keeps.refl s).judged u
  · dsimp only
    split
    · exact completePhase
    · exact (Keeps.refl s).judged u

theorem reportTripped (w : Word) : Judged u s (s.reportTripped u w).1 := by
  unfold State.reportTripped
  split
  · exact tripEvent _
  · exact (Keeps.refl s).judged u
  · split
    · exact (Keeps.refl s).judged u
    · exact changeMode _

theorem reportByCondition (w : Word) : Judged u s (s.reportByCondition u w).1 := by
  unfold State.reportByCondition
  split
  · exact (Keeps.refl s).judged u
  · exact reportTripped w
  · exact reportAtRest w
  · split
    · exact reportMoving _ w
    · exact reportAtRest w

end Judged

/-! ## Reports (R6) -/

namespace State

variable {s : State} {u : UnitNo} {w : Word} {rep : Report}

theorem unit_reportTaken (v : UnitNo) : (s.reportTaken u rep).unit v =
    if v = u then
      { s.unit v with
        silenceDeadline := some (s.now + 100 * s.plan.unitEntries[u.val].unitSilence.toNat)
        silent := false, lastReport := some rep }
    else s.unit v := by
  unfold reportTaken
  extract_lets timed awake
  have hawake : awake.unit v = if v = u then
      { s.unit v with
        silenceDeadline := some (s.now + 100 * s.plan.unitEntries[u.val].unitSilence.toNat), silent := false }
      else s.unit v := by
    unfold awake
    by_cases hv : v = u
    · subst hv
      rw [if_pos rfl]
      split
      · rw [unit_sendAlert, unit_updUnit_self, unit_updUnit_self]
      · next hs =>
        rw [unit_updUnit_self]
        simp only [Bool.not_eq_true] at hs
        rw [← hs]
    · rw [if_neg hv]
      split
      · rw [unit_sendAlert, unit_updUnit_of_ne _ hv, unit_updUnit_of_ne _ hv]
      · rw [unit_updUnit_of_ne _ hv]
  by_cases hv : v = u
  · subst hv
    rw [unit_updUnit_self, hawake, if_pos rfl, if_pos rfl]
  · rw [unit_updUnit_of_ne _ hv, hawake, if_neg hv, if_neg hv]

theorem readUnitReport_eq : s.readUnitReport u rep =
    (if ((s.unit u).silent || ((s.reportTaken u rep).reportByCondition u rep.statusWord).2) = true then
      ((s.reportTaken u rep).reportByCondition u rep.statusWord).1.startAttempt u
    else ((s.reportTaken u rep).reportByCondition u rep.statusWord).1).drainCheck := by
  rw [← commonReport_eq]
  rfl

end State

/-- A report from a unit in service is read, and forwarded to the plant port. -/
theorem exec_unitReport_read {dst src : Byte} {ident tag power speed : Half} {w : Word} {u : UnitNo} {s : State}
    (hs : s.Receives .unit) (hu : s.unitAt src = some u) :
    exec (.unitReport dst src ident tag (wordBytes w ++ halfBytes power ++ halfBytes speed)) s =
      .next (((s.heard .unit src).readUnitReport u { statusWord := w, power := power, speed := speed }).forwardTo .plant
        (unitReportTelegram dst src ident tag (wordBytes w ++ halfBytes power ++ halfBytes speed))) := by
  rw [exec_unitReport hs (by simp [wordBytes_length, halfBytes_length])]
  congr 2
  unfold State.takeUnitReport
  have hat : (s.heard .unit src).unitAt (unitReportTelegram dst src ident tag
      (wordBytes w ++ halfBytes power ++ halfBytes speed)).src = some u := (State.unitAt_heard src src).trans hu
  rw [hat]
  have hparse : State.parseReport (unitReportTelegram dst src ident tag
      (wordBytes w ++ halfBytes power ++ halfBytes speed)).payload = some _ := parseReport_bytes w power speed
  rw [hparse]


theorem State.parseReport_badLength {payload : List Byte} (h : payload.length ≠ 8) : State.parseReport payload = none := by
  unfold State.parseReport
  split
  · exact absurd rfl h
  · rfl

/-- Settles O17: recognition by the first entry that hits, and the effect of a report by `Judged`. -/
theorem unitReportsAreReadAndRecognised : Obligations.UnitReportsAreReadAndRecognised := by
  refine ⟨?unread, ?common, ?recognition⟩
  case unread =>
    intro dst src ident tag payload s hs hlen h
    rw [exec_unitReport hs hlen]
    refine congrArg (fun t : State => Host.Outcome.next (t.forwardTo .plant _)) ?_
    have hat : (s.heard .unit src).unitAt (unitReportTelegram dst src ident tag payload).src = s.unitAt src :=
      State.unitAt_heard src src
    unfold State.takeUnitReport
    rw [hat]
    rcases h with h | h
    · rw [h]
    · have hparse : State.parseReport (unitReportTelegram dst src ident tag payload).payload = none :=
        State.parseReport_badLength h
      rw [hparse]
      cases s.unitAt src <;> rfl
  case common =>
    intro dst src ident tag w power speed u s hs hu
    refine ⟨_, exec_unitReport_read hs hu, ?_⟩
    rw [State.unit_forwardTo, State.readUnitReport_eq, State.unit_drainCheck]
    have htaken := State.unit_reportTaken (s := s.heard .unit src) (u := u)
      (rep := { statusWord := w, power := power, speed := speed }) u
    rw [if_pos rfl, State.heard_now, State.heard_plan] at htaken
    set taken := (s.heard .unit src).reportTaken u { statusWord := w, power := power, speed := speed }
    have hjudged : Judged u taken (taken.reportByCondition u w).1 := Judged.reportByCondition w
    have hafter : ∀ t, Judged u taken t → (t.unit u).silenceDeadline =
        some (s.now + 100 * s.plan.unitEntries[u.val].unitSilence.toNat) ∧ (t.unit u).silent = false ∧
          (t.unit u).lastReport = some { statusWord := w, power := power, speed := speed } := fun t h =>
      ⟨h.silenceDeadline.trans (by rw [htaken]), h.silent.trans (by rw [htaken]), h.lastReport.trans (by rw [htaken])⟩
    split
    · exact hafter _ (hjudged.keeps (inert_keeps.startAttempt (inert_keeps.refl _)))
    · exact hafter _ hjudged
  case recognition =>
    intro s u w hit trip
    have hits : ∀ i : Fin 12, hit i ↔ s.plan.recognition[i.val].hits u w = true ∧ s.plan.recognition[i.val].mode.val ≤ 5 :=
      fun i => by simp only [hit, Recognition.hits_iff]; tauto
    have htrips : ∀ i : Fin 12, hit i ∧ trip i ↔
        s.plan.recognition[i.val].mode = 5 ∧ s.plan.recognition[i.val].hits u w = true := by
      intro i
      rw [hits]
      refine ⟨fun h => ⟨h.2, h.1.1⟩, fun h => ⟨⟨h.2, ?_⟩, h.1⟩⟩
      rw [h.1]
      decide
    refine ⟨fun i hi ht hbefore => ?_, fun hnone => ?_⟩
    · obtain ⟨hmode, hhit⟩ := (htrips i).mp ⟨hi, ht⟩
      exact State.recognise_trip hmode hhit fun j hj h => hbefore j hj ((htrips j).mpr h)
    · obtain ⟨hmoving, hrest⟩ := State.recognise_untripped (s := s) (u := u) (w := w) fun j h =>
        hnone j ((htrips j).mpr h)
      have hhigh : ∀ j : Fin 12, s.plan.recognition[j.val].hits u w = true → ¬ hit j →
          4 < s.plan.recognition[j.val].mode.val := fun j hj h => by
        have hle : ¬ s.plan.recognition[j.val].mode.val ≤ 5 := fun hle => h ((hits j).mpr ⟨hj, hle⟩)
        omega
      refine ⟨hmoving, fun ht => ⟨fun i m hi hbefore hm => ?_, fun hno => ?_⟩⟩
      · exact (hrest ht).1 m (State.modeEntry_eq_some ((hits i).mp hi).1 hm fun j hj h => hhigh j h (hbefore j hj))
      · exact (hrest ht).2 (State.modeEntry_eq_none fun j h => hhigh j h (hno j))

/-! ## A report for a unit at rest (R6, R8, R9) -/

namespace State

variable {s : State} {u : UnitNo} {w : Word}

theorem recognise_congr {t : State} (hp : t.plan = s.plan) (ht : (t.unit u).transition = (s.unit u).transition) :
    t.recognise u w = s.recognise u w := by
  simp only [recognise, tripEntry, modeEntry, hp, ht]

theorem plan_reportTaken (rep : Report) : (s.reportTaken u rep).plan = s.plan := by
  unfold reportTaken
  split <;> simp [sendAlert]

theorem tripEvent_tripped {d : Half} (h : (s.unit u).mode = .tripped) :
    s.tripEvent u d = s.updUnit u fun r => { r with tripSeen := true } := by
  unfold tripEvent
  dsimp only
  rw [unit_updUnit_self, h]

theorem tripEvent_out {d : Half} (h : (s.unit u).mode = .out) :
    s.tripEvent u d = (s.updUnit u fun r => { r with tripSeen := true }).reportTrip u d := by
  unfold tripEvent
  dsimp only
  rw [unit_updUnit_self, h]

theorem tripEvent_enters {d : Half} (ht : (s.unit u).mode ≠ .tripped) (ho : (s.unit u).mode ≠ .out) :
    s.tripEvent u d = s.trippedBy u d := by
  rw [← enterTripped_eq]
  unfold tripEvent
  dsimp only
  rw [unit_updUnit_self]
  split
  · next h => exact absurd h ht
  · next h => exact absurd h ho
  · rfl
  · rfl

theorem reportAtRest_trip {i : Fin 12} (hr : s.recognise u w = .trip i) (ht : (s.unit u).mode ≠ .tripped)
    (ho : (s.unit u).mode ≠ .out) : s.reportAtRest u w = (s.trippedBy u (natHalf (0x100 + i.val)), false) := by
  unfold reportAtRest
  rw [hr]
  dsimp only
  rw [tripEvent_enters ht ho]
  rfl

theorem reportAtRest_none (hr : s.recognise u w = .none) : s.reportAtRest u w = (s, false) := by
  unfold reportAtRest
  rw [hr]

theorem reportAtRest_mode {n : Mode} (hr : s.recognise u w = .mode n) :
    ((s.unit u).mode = .unknown → s.reportAtRest u w = (s.changeMode u (.settled n), true)) ∧
      (∀ m, (s.unit u).mode = .settled m →
        (n = m → s.reportAtRest u w = (s, false)) ∧
        (n ≠ m → s.reportAtRest u w = ((s.changeMode u (.settled n)).sendAlert .modeDrift (unitByte u)
          (natHalf ((modeCode m).toNat * 256 + (modeCode n).toNat)), true))) := by
  unfold reportAtRest
  rw [hr]
  dsimp only
  refine ⟨fun h => if_pos h, fun m h => ?_⟩
  rw [h, if_neg nofun]
  refine ⟨fun hn => if_pos (by rw [hn]), fun hn => if_neg fun he => hn ?_⟩
  injection he with he
  exact he.symm

theorem reportByCondition_out (h : (s.unit u).mode = .out) : s.reportByCondition u w = (s, false) := by
  unfold reportByCondition
  rw [h]

theorem reportByCondition_tripped (h : (s.unit u).mode = .tripped) :
    s.reportByCondition u w = s.reportTripped u w := by
  unfold reportByCondition
  rw [h]

theorem reportByCondition_unknown (h : (s.unit u).mode = .unknown) :
    s.reportByCondition u w = s.reportAtRest u w := by
  unfold reportByCondition
  rw [h]

theorem reportByCondition_rest {m : Mode} (h : (s.unit u).mode = .settled m) (ht : (s.unit u).transition = none) :
    s.reportByCondition u w = s.reportAtRest u w := by
  unfold reportByCondition
  rw [h, ht]

theorem reportByCondition_moving {m : Mode} {x : Transition} (h : (s.unit u).mode = .settled m)
    (ht : (s.unit u).transition = some x) : s.reportByCondition u w = s.reportMoving u x w := by
  unfold reportByCondition
  rw [h, ht]

theorem reportTripped_trip {i : Fin 12} (hr : s.recognise u w = .trip i) (hm : (s.unit u).mode = .tripped) :
    s.reportTripped u w = (s.updUnit u fun r => { r with tripSeen := true }, false) := by
  unfold reportTripped
  rw [hr]
  dsimp only
  rw [tripEvent_tripped hm]

theorem reportTripped_none (hr : s.recognise u w = .none) : s.reportTripped u w = (s, false) := by
  unfold reportTripped
  rw [hr]

theorem reportTripped_mode {n : Mode} (hr : s.recognise u w = .mode n) :
    ((s.unit u).tripInput = false → s.reportTripped u w = (s.changeMode u (.settled n), true)) ∧
      ((s.unit u).tripInput = true → s.reportTripped u w = (s, false)) := by
  unfold reportTripped
  rw [hr]
  exact ⟨fun h => if_neg (by simp [h]), fun h => if_pos h⟩

/-- With no transition in flight and nothing waiting, a trip is its mode, its alert and its duty event (R13). -/
theorem trippedBy_idle {d : Half} (ht : (s.unit u).transition = none) (hr : (s.unit u).reserveClaim = none)
    (ho : s.orders = []) : s.trippedBy u d =
      ((s.updUnit u fun r => { r with tripSeen := true, mode := .tripped }).sendAlert .trip (unitByte u) d).dutyEvent
        .trips u := by
  unfold trippedBy
  dsimp only
  have hend : (s.updUnit u fun r => { r with tripSeen := true, mode := .tripped }).endTransition u .failed .unitTripped
      true = s.updUnit u fun r => { r with tripSeen := true, mode := .tripped } := by
    unfold endTransition
    rw [unit_updUnit_self, ht]
  rw [hend, waitingFails_idle (by rw [unit_updUnit_self, hr]) (by exact ho)]

theorem calm_heard (p : PortName) (src : Byte) : Calm s (s.heard p src) := by
  unfold heard
  extract_lets s1
  have h1 : Calm s s1 := calm_updCounters _
  split
  · exact h1.trans calm_fields
  · exact h1

theorem calm_reportTaken (rep : Report) : Calm s (s.reportTaken u rep) := by
  rw [← commonReport_eq]
  exact calm_commonReport rep

theorem reportTaken_heard (src : Byte) {rep : Report} (h : (s.unit u).silent = false) :
    (s.heard .unit src).reportTaken u rep = (s.heard .unit src).updUnit u fun r =>
      { r with
        silenceDeadline := some (s.now + 100 * s.plan.unitEntries[u.val].unitSilence.toNat), lastReport := some rep } := by
  unfold reportTaken
  rw [unit_heard, h, heard_now, heard_plan]
  dsimp only
  rw [if_neg Bool.false_ne_true, updUnit_updUnit]

end State

/-- What a report does is what its judgement does, with the start attempt that it or the end of a silence asks for, and the
end of a drain. -/
theorem exec_unitReport_judged {dst src : Byte} {ident tag power speed : Half} {w : Word} {u : UnitNo} {s t : State}
    {attempt : Bool} (hs : s.Receives .unit) (hu : s.unitAt src = some u)
    (h : ((s.heard .unit src).reportTaken u { statusWord := w, power := power, speed := speed }).reportByCondition u w =
      (t, attempt)) :
    exec (.unitReport dst src ident tag (wordBytes w ++ halfBytes power ++ halfBytes speed)) s =
      .next ((if ((s.unit u).silent || attempt) = true then t.startAttempt u else t).drainCheck.forwardTo .plant
        (unitReportTelegram dst src ident tag (wordBytes w ++ halfBytes power ++ halfBytes speed))) := by
  rw [exec_unitReport_read hs hu, State.readUnitReport_eq, h, State.unit_heard]

/-- Settles O18. With nothing waiting, a start attempt does nothing and a drain goes on. -/
theorem unitReportAtRest : Obligations.UnitReportAtRest := by
  refine (and_iff_right_of_imp fun hgeneral => ?idle).mpr ?general
  case idle =>
    intro dst src ident tag w power speed u s hs hu hsound ho ht hr hsilent payload s1 result tripped
    have h1 : s1 = (s.heard .unit src).reportTaken u { statusWord := w, power := power, speed := speed } :=
      (State.reportTaken_heard src hsilent).symm
    have hcalm1 : Calm s s1 := by
      rw [h1]
      exact (State.calm_heard _ _).trans (State.calm_reportTaken _)
    have hidle : ∀ t, Calm s1 t → (t.unit u).reserveClaim = none ∧ t.orders = [] ∧ t.drainCheck = t := fun t h =>
      ⟨(((hcalm1.trans h).leftAlone u) ht).2.1.trans hr, (hcalm1.trans h).orders.trans ho,
        State.drainCheck_of_sound ((hcalm1.trans h).dispatcherStateSound hsound)⟩
    have hchanges : ∀ t, Calm s1 t → exec (.unitReport dst src ident tag payload) s =
        .next ((t.startAttempt u).drainCheck.forwardTo .plant (unitReportTelegram dst src ident tag payload)) →
        result t := fun t hc h => by
      obtain ⟨hclaim, horders, hdrain⟩ := hidle t hc
      rwa [State.startAttempt_idle hclaim horders, hdrain] at h
    have hstays : ∀ t, Calm s1 t → exec (.unitReport dst src ident tag payload) s =
        .next ((if (s.unit u).silent then t.startAttempt u else t).drainCheck.forwardTo .plant
          (unitReportTelegram dst src ident tag payload)) → result t := fun t hc h => by
      rwa [hsilent, if_neg Bool.false_ne_true, (hidle t hc).2.2] at h
    have htripped : ∀ i : Fin 12, s1.trippedBy u (natHalf (0x100 + i.val)) = tripped i := fun i => by
      obtain ⟨hclaim, horders, _⟩ := hidle s1 .refl
      exact State.trippedBy_idle ((hcalm1.leftAlone u) ht).1 hclaim horders
    have hcalmTripped : ∀ i : Fin 12, Calm s1 (tripped i) := fun i =>
      ((State.calm_updUnit ⟨rfl, rfl, rfl⟩).trans (State.calm_originate _)).trans (State.calm_dutyEvent _)
    obtain ⟨hout, hunknown, hsettled, htrip⟩ := hgeneral dst src ident tag w power speed u s hs hu ht
    rw [← h1] at hout hunknown hsettled htrip
    refine ⟨fun hm => hstays _ .refl (hout hm), fun hm => ?_, fun m hm => ?_, fun hm => ?_⟩
    · obtain ⟨ha, hb, hc⟩ := hunknown hm
      refine ⟨fun i hi => ?_, fun n hn => hchanges _ (State.calm_changeMode _) (hb n hn), fun h => hstays _ .refl (hc h)⟩
      exact htripped i ▸ hstays _ (htripped i ▸ hcalmTripped i) (ha i hi)
    · obtain ⟨ha, hb, hc⟩ := hsettled m hm
      refine ⟨fun i hi => ?_, fun n hn => ⟨fun h => hstays _ .refl ((hb n hn).1 h), fun h => ?_⟩,
        fun h => hstays _ .refl (hc h)⟩
      · exact htripped i ▸ hstays _ (htripped i ▸ hcalmTripped i) (ha i hi)
      · exact hchanges _ ((State.calm_changeMode _).trans (State.calm_originate _)) ((hb n hn).2 h)
    · obtain ⟨ha, hb, hc⟩ := htrip hm
      exact ⟨fun i hi => hstays _ (State.calm_updUnit ⟨rfl, rfl, rfl⟩) (ha i hi),
        fun n hn => ⟨fun h => hchanges _ (State.calm_changeMode _) ((hb n hn).1 h),
          fun h => hstays _ .refl ((hb n hn).2 h)⟩, fun h => hstays _ .refl (hc h)⟩
  case general =>
    intro dst src ident tag w power speed u s hs hu ht payload taken result stays changes
    have hunit := State.unit_reportTaken (s := s.heard .unit src) (u := u)
      (rep := { statusWord := w, power := power, speed := speed }) u
    rw [if_pos rfl, State.unit_heard] at hunit
    have hmode : (taken.unit u).mode = (s.unit u).mode := (congrArg UnitRecord.mode hunit).trans rfl
    have hinput : (taken.unit u).tripInput = (s.unit u).tripInput := (congrArg UnitRecord.tripInput hunit).trans rfl
    have htr : (taken.unit u).transition = none := (congrArg UnitRecord.transition hunit).trans ht
    have hrec : taken.recognise u w = s.recognise u w :=
      State.recognise_congr ((State.plan_reportTaken _).trans (State.heard_plan ..)) (htr.trans ht.symm)
    have hstays : ∀ t, taken.reportByCondition u w = (t, false) → stays t := fun t h => by
      have := exec_unitReport_judged (dst := dst) (ident := ident) (tag := tag) hs hu h
      rwa [Bool.or_false] at this
    have hchanges : ∀ t, taken.reportByCondition u w = (t, true) → changes t := fun t h => by
      have := exec_unitReport_judged (dst := dst) (ident := ident) (tag := tag) hs hu h
      rwa [Bool.or_true, if_pos rfl] at this
    refine ⟨fun hm => ?_, fun hm => ?_, fun m hm => ?_, fun hm => ?_⟩ <;> rw [← hmode] at hm
    · exact hstays _ (State.reportByCondition_out hm)
    · have hatRest := State.reportByCondition_unknown (w := w) hm
      refine ⟨fun i hi => ?_, fun n hn => ?_, fun h => ?_⟩ <;> [rw [← hrec] at hi; rw [← hrec] at hn; rw [← hrec] at h]
      · exact hstays _ (hatRest.trans (State.reportAtRest_trip hi (by simp [hm]) (by simp [hm])))
      · exact hchanges _ (hatRest.trans ((State.reportAtRest_mode hn).1 hm))
      · exact hstays _ (hatRest.trans (State.reportAtRest_none h))
    · have hatRest := State.reportByCondition_rest (w := w) hm htr
      refine ⟨fun i hi => ?_, fun n hn => ?_, fun h => ?_⟩ <;> [rw [← hrec] at hi; rw [← hrec] at hn; rw [← hrec] at h]
      · exact hstays _ (hatRest.trans (State.reportAtRest_trip hi (by simp [hm]) (by simp [hm])))
      · obtain ⟨hsame, hdrift⟩ := (State.reportAtRest_mode hn).2 m hm
        exact ⟨fun e => hstays _ (hatRest.trans (hsame e)), fun e => hchanges _ (hatRest.trans (hdrift e))⟩
      · exact hstays _ (hatRest.trans (State.reportAtRest_none h))
    · have htripped := State.reportByCondition_tripped (w := w) hm
      refine ⟨fun i hi => ?_, fun n hn => ?_, fun h => ?_⟩ <;> [rw [← hrec] at hi; rw [← hrec] at hn; rw [← hrec] at h]
      · exact hstays _ (htripped.trans (State.reportTripped_trip hi hm))
      · obtain ⟨hclear, hset⟩ := State.reportTripped_mode hn
        rw [hinput] at hclear hset
        exact ⟨fun e => hchanges _ (htripped.trans (hclear e)), fun e => hstays _ (htripped.trans (hset e))⟩
      · exact hstays _ (htripped.trans (State.reportTripped_none h))

end Sys2Proof.Machine
end

section
/-!
PROOFS. Chapter 1, the lines and the timers: the TRIP lines (R11 to R14), the OUT lines (R16 to R19), and silence (R10, R100).
-/

namespace Sys2Proof.Machine

namespace State

variable {s : State} {u : UnitNo}

/-! ## Deadlines (log 2) -/

theorem whenDue_due {due : Bool} {f : State → State} (h : due = true) : s.whenDue due f = f s := if_pos h

theorem whenDue_early {due : Bool} {f : State → State} (h : due = false) : s.whenDue due f = s := if_neg (by simp [h])

theorem reached_of_le {o : Option Time} {d : Time} (ho : o = some d) (h : d ≤ s.now) : s.reached o = true := by
  subst ho
  exact decide_eq_true h

theorem not_reached {o : Option Time} (h : ∀ d, o = some d → s.now < d) : s.reached o = false := by
  cases o with
  | none => rfl
  | some d => exact decide_eq_false (Nat.not_le.mpr (h d rfl))

theorem updWaterway_updWaterway (w : WaterwayNo) (f g : Waterway → Waterway) :
    (s.updWaterway w f).updWaterway w g = s.updWaterway w fun x => g (f x) := by
  simp [updWaterway]

theorem waterwayFallsSilent_eq (w : WaterwayNo) :
    ((s.waterway w).alarm = true → s.waterwayFallsSilent w = s.updWaterway w fun y => { y with silenceDeadline := none }) ∧
      ((s.waterway w).alarm = false → s.waterwayFallsSilent w =
        (s.updWaterway w fun y => { y with silenceDeadline := none }).raiseAlarm w 2) := by
  unfold waterwayFallsSilent
  dsimp only
  rw [waterway_updWaterway_self]
  exact ⟨fun h => if_pos h, fun h => if_neg (by simp [h])⟩

end State

/-- Settles O22: each timer by whether its deadline is reached. -/
theorem silenceTimersExpireAtTheirDeadline : Obligations.SilenceTimersExpireAtTheirDeadline := by
  refine ⟨fun u s => ⟨fun d hd hle => ?_, fun h => ?_⟩, fun w s => ?_⟩
  · exact congrArg Host.Outcome.next (State.whenDue_due (State.reached_of_le hd hle))
  · exact congrArg Host.Outcome.next (State.whenDue_early (State.not_reached h))
  · intro stopped
    refine ⟨fun h => congrArg Host.Outcome.next (State.whenDue_early (State.not_reached h)), fun d hd hle => ?_⟩
    have hdue := State.whenDue_due (s := s) (f := State.waterwayFallsSilent w) (State.reached_of_le hd hle)
    obtain ⟨hset, hclear⟩ := State.waterwayFallsSilent_eq (s := s) w
    exact ⟨fun h => congrArg Host.Outcome.next (hdue.trans (hset h)),
      fun h => congrArg Host.Outcome.next (hdue.trans (hclear h))⟩

/-! ## What the end of a transition leaves of its unit (R86) -/

theorem Calm.reserveClaim {s t : State} (h : Calm s t) (u : UnitNo) :
    (t.unit u).reserveClaim = (s.unit u).reserveClaim := (h.waiting u).2

namespace State

variable {s : State} {u : UnitNo} {st : Status} {r : Reason} {byTrip : Bool}

theorem endTransition_none (h : (s.unit u).transition = none) : s.endTransition u st r byTrip = s := by
  unfold endTransition
  rw [h]

/-- The unit has no transition and no held telegrams, and what waits is what waited. -/
theorem endTransition_some (h : (s.unit u).transition ≠ none) :
    ((s.endTransition u st r byTrip).unit u).transition = none ∧ ((s.endTransition u st r byTrip).unit u).holdQueue = [] ∧
      ((s.endTransition u st r byTrip).unit u).reserveClaim = (s.unit u).reserveClaim ∧
      (s.endTransition u st r byTrip).orders = s.orders := by
  unfold endTransition
  split
  · next hn => exact absurd hn h
  · extract_lets s1 s2 s3 s4 s5 s6
    have h5 : Calm s s5 := by
      have h4 : Calm s s4 :=
        ((calm_withdrawEntry.trans calm_releaseConverter).trans calm_releaseWindow).trans (calm_originate _)
      unfold s5
      split
      · exact h4.trans (calm_dutyEvent _)
      · exact h4
    have hemptied : ∀ t : State, Calm (s6.updUnit u fun x => { x with holdQueue := [] }) t →
        (t.unit u).transition = none ∧ (t.unit u).holdQueue = [] ∧
          (t.unit u).reserveClaim = (s.unit u).reserveClaim ∧ t.orders = s.orders := by
      intro t ht
      have h6 : (s6.updUnit u fun x => { x with holdQueue := [] }).unit u =
          { s5.unit u with transition := none, holdQueue := [] } := by
        rw [unit_updUnit_self, unit_updUnit_self]
      obtain ⟨htr, hclaim, hhold⟩ := ht.leftAlone u (by rw [h6])
      rw [h6] at hclaim hhold
      exact ⟨htr, hhold, hclaim.trans (h5.reserveClaim u), ht.orders.trans h5.orders⟩
    split
    · exact hemptied _ (calm_countDroppedGuard _)
    · exact hemptied _ (Calm.foldl (fun _ x => calm_judgeHeld x) _ _)

theorem transition_endTransition : ((s.endTransition u st r byTrip).unit u).transition = none := by
  by_cases h : (s.unit u).transition = none
  · rw [endTransition_none h, h]
  · exact (endTransition_some h).1

theorem orders_endTransition : (s.endTransition u st r byTrip).orders = s.orders := by
  by_cases h : (s.unit u).transition = none
  · rw [endTransition_none h]
  · exact (endTransition_some h).2.2.2

theorem reserveClaim_endTransition :
    ((s.endTransition u st r byTrip).unit u).reserveClaim = (s.unit u).reserveClaim := by
  by_cases h : (s.unit u).transition = none
  · rw [endTransition_none h]
  · exact (endTransition_some h).2.2.1

/-! ## What fails with its unit (R13, R17) -/

variable {spared : Option CutName}

theorem orders_foldl_sendOrderStatus (os : List Order) :
    (os.foldl (fun t o => t.sendOrderStatus o st r) s).orders = s.orders := by
  induction os generalizing s with
  | nil => rfl
  | cons o os ih => rw [List.foldl_cons, ih, sendOrderStatus, sendStatus, originate_orders]

theorem orders_waitingFails : (s.waitingFails u spared r).orders =
    s.orders.filter fun o => !decide (o.target = .unit u ∧ spared ≠ some { origin := o.origin, tag := o.tag }) := by
  have hq : (s.failQueued u spared r).orders =
      s.orders.filter fun o => !(o.isFor u && !decide (spared = some o.claim.name)) := orders_foldl_sendOrderStatus _
  have hr : ((s.failQueued u spared r).failReserve u spared r).orders = (s.failQueued u spared r).orders := by
    unfold failReserve
    split
    · rfl
    · split
      · rfl
      · exact originate_orders ..
  rw [← failReserve_failQueued, hr, hq]
  refine List.filter_congr fun o _ => ?_
  by_cases ho : o.target = .unit u <;>
    by_cases hs : spared = some { origin := o.origin, tag := o.tag } <;>
      simp [Order.isFor, Order.claim, Claim.name, ho, hs]

theorem unit_waitingFails_of_ne {v : UnitNo} (h : v ≠ u) : (s.waitingFails u spared r).unit v = s.unit v := by
  rw [← failReserve_failQueued]
  have hq : (s.failQueued u spared r).unit v = s.unit v := unit_foldl_sendOrderStatus ..
  unfold failReserve
  split
  · exact hq
  · split
    · exact hq
    · rw [sendClaimStatus, sendStatus, unit_originate, unit_updUnit_of_ne _ h, hq]

/-- Of the unit's record only the claim can go. -/
theorem unit_waitingFails_self : ∃ c, (s.waitingFails u spared r).unit u = { s.unit u with reserveClaim := c } ∧
    ∀ x, c = some x → (s.unit u).reserveClaim = some x ∧
      spared = some { origin := .reserve, tag := natHalf (lineNumber x.line) } := by
  rw [← failReserve_failQueued]
  have hq : (s.failQueued u spared r).unit u = s.unit u := unit_foldl_sendOrderStatus ..
  unfold failReserve
  rw [hq]
  split
  · next hc => exact ⟨none, by rw [hq, ← hc], nofun⟩
  · next y hc =>
    split
    · next hs =>
      refine ⟨some y, by rw [hq, ← hc], fun x hx => ?_⟩
      injection hx with hx
      subst hx
      exact ⟨hc, hs⟩
    · refine ⟨none, ?_, nofun⟩
      rw [sendClaimStatus, sendStatus, unit_originate, unit_updUnit_self, hq]

/-! ## Trips (R11 to R14) -/

theorem trippedBy_unit {d : Half} : ∃ t : State, s.trippedBy u d = t ∧
    (t.unit u).mode = .tripped ∧ (t.unit u).tripSeen = true ∧ (t.unit u).tripInput = (s.unit u).tripInput ∧
      (t.unit u).transition = none ∧ ((s.unit u).transition ≠ none → (t.unit u).holdQueue = []) ∧
      (∀ o ∈ t.orders, o ∈ s.orders ∧ (o.target = .unit u → s.cutOf u = some { origin := o.origin, tag := o.tag })) ∧
      ∀ c, (t.unit u).reserveClaim = some c → (s.unit u).reserveClaim = some c ∧
        s.cutOf u = some { origin := .reserve, tag := natHalf (lineNumber c.line) } := by
  refine ⟨_, rfl, ?_⟩
  unfold trippedBy
  extract_lets spared
  set s1 := s.updUnit u fun r => { r with tripSeen := true, mode := .tripped } with hs1
  set s2 := s1.endTransition u .failed .unitTripped true with hs2
  have hu1 : s1.unit u = { s.unit u with tripSeen := true, mode := .tripped } := unit_updUnit_self ..
  have hkeeps : Keeps s1 s2 := inert_keeps.endTransition (inert_keeps.refl s1)
  obtain ⟨hmode, _, _, hinput, _, _, _, hseen, _⟩ := hkeeps.units u
  obtain ⟨c, hu3, hc⟩ := unit_waitingFails_self (s := s2) (u := u) (spared := spared) (r := .unitTripped)
  have hlast : ((((s2.waitingFails u spared .unitTripped).sendAlert .trip (unitByte u) d).dutyEvent .trips u).unit u) =
      { s2.unit u with reserveClaim := c } := by
    rw [unit_dutyEvent, unit_sendAlert, hu3]
  have horders : (((s2.waitingFails u spared .unitTripped).sendAlert .trip (unitByte u) d).dutyEvent .trips u).orders =
      s.orders.filter fun o => !decide (o.target = .unit u ∧ spared ≠ some { origin := o.origin, tag := o.tag }) := by
    rw [(Counted.dutyEvent _).orders, sendAlert, originate_orders, orders_waitingFails, orders_endTransition]
    rfl
  rw [hlast, horders]
  refine ⟨hmode.trans (by rw [hu1]), hseen.trans (by rw [hu1]), hinput.trans (by rw [hu1]), transition_endTransition,
    fun ht => (endTransition_some (by rwa [hu1])).2.1, fun o ho => ?_, fun x hx => ?_⟩
  · obtain ⟨hmem, hkeep⟩ := List.mem_filter.mp ho
    refine ⟨hmem, fun htarget => ?_⟩
    simpa [htarget, cutOf, spared] using hkeep
  · obtain ⟨hclaim, hspared⟩ := hc x hx
    refine ⟨?_, hspared⟩
    rw [hs2, reserveClaim_endTransition, hu1] at hclaim
    exact hclaim

/-- Unit u's TRIP line reported asserted, before what follows from it. -/
def tripAsserted (u : UnitNo) (s : State) : State :=
  { (s.updUnit u fun r => { r with tripInput := true }) with
    lines := { s.lines with trip := s.lines.trip ||| BitVec.twoPow 8 u.val } }

theorem unit_tripAsserted : (s.tripAsserted u).unit u = { s.unit u with tripInput := true } :=
  unit_updUnit_self s u fun r => { r with tripInput := true }

theorem tripInputSet_quiet (h : s.plan.station.unitCount.toNat ≤ u.val ∨ (s.unit u).tripInput = true) :
    s.tripInputSet u = s.tripAsserted u := by
  unfold tripInputSet
  refine if_neg fun hc => ?_
  simp only [Bool.and_eq_true, Bool.not_eq_true', unitInService, decide_eq_true_eq] at hc
  obtain ⟨hin, hinput⟩ := hc
  rcases h with h | h
  · exact Nat.not_lt.mpr h hin
  · exact Bool.false_ne_true (hinput.symm.trans h)

theorem tripInputSet_event (hin : u.val < s.plan.station.unitCount.toNat) (hi : (s.unit u).tripInput = false) :
    s.tripInputSet u = ((s.tripAsserted u).tripAndAttempt u 0).drainCheck := by
  unfold tripInputSet
  refine if_pos ?_
  simp only [hi, Bool.not_false, Bool.and_true]
  exact decide_eq_true hin

theorem tripAndAttempt_rest {d : Half} (h : (s.unit u).transition = none) : s.tripAndAttempt u d = s.tripEvent u d := by
  unfold tripAndAttempt
  rw [h]
  rfl

theorem tripAndAttempt_enters {d : Half} (ht : (s.unit u).mode ≠ .tripped) (ho : (s.unit u).mode ≠ .out) :
    s.tripAndAttempt u d =
      if (s.unit u).transition = none then s.trippedBy u d else (s.trippedBy u d).startAttempt u := by
  unfold tripAndAttempt
  dsimp only
  rw [tripEvent_enters ht ho]
  obtain ⟨t, heq, _, _, _, hnone, _⟩ := trippedBy_unit (s := s) (u := u) (d := d)
  rw [heq, hnone]
  by_cases h : (s.unit u).transition = none
  · rw [h, if_pos rfl]
    rfl
  · rw [if_neg h, if_pos]
    simp [Option.isSome_iff_ne_none, h]

/-- The trip of a unit that is neither OUT nor TRIPPED (R13), with the start attempt of a transition's end. -/
theorem tripInputSet_enters (hin : u.val < s.plan.station.unitCount.toNat) (hi : (s.unit u).tripInput = false)
    (ht : (s.unit u).mode ≠ .tripped) (ho : (s.unit u).mode ≠ .out) :
    s.tripInputSet u =
      (if (s.unit u).transition = none then (s.tripAsserted u).trippedBy u 0
        else ((s.tripAsserted u).trippedBy u 0).startAttempt u).drainCheck := by
  have hmode : ((s.tripAsserted u).unit u).mode = (s.unit u).mode := by rw [unit_tripAsserted]
  rw [tripInputSet_event hin hi, tripAndAttempt_enters (by rwa [hmode]) (by rwa [hmode]), unit_tripAsserted]

/-- With a transition in flight and nothing waiting, a trip is its mode, the end of the transition, and its report. -/
theorem trippedBy_moving {d : Half} (hr : (s.unit u).reserveClaim = none) (ho : s.orders = []) : s.trippedBy u d =
    (((s.updUnit u fun r => { r with tripSeen := true, mode := .tripped }).endTransition u .failed .unitTripped
      true).sendAlert .trip (unitByte u) d).dutyEvent .trips u := by
  unfold trippedBy
  dsimp only
  rw [waitingFails_idle]
  · rw [reserveClaim_endTransition, unit_updUnit_self, hr]
  · exact orders_endTransition.trans ho

theorem calm_tripAsserted : Calm s (s.tripAsserted u) :=
  Calm.trans (t := s.updUnit u fun r => { r with tripInput := true }) (calm_updUnit ⟨rfl, rfl, rfl⟩) calm_fields

end State

/-- Settles O20: the line by the condition of its unit: OUT, TRIPPED, or a trip with all that it ends (`trippedBy`).
-/
theorem tripLineTripsItsUnit : Obligations.TripLineTripsItsUnit := by
  refine ⟨fun u s hsound => ?_, fun u s => rfl, fun u s => ?_⟩
  · intro s1
    have hcalm : Calm s s1 := State.calm_tripAsserted
    have hu1 : s1.unit u = { s.unit u with tripInput := true } := State.unit_tripAsserted
    refine ⟨fun h => congrArg Host.Outcome.next (State.tripInputSet_quiet h), fun hin hi => ⟨fun ht => ?_, fun hmt hmo => ?_⟩⟩
    · have hevent : s.tripInputSet u = (s1.tripEvent u 0).drainCheck := by
        rw [State.tripInputSet_event hin hi]
        exact congrArg State.drainCheck (State.tripAndAttempt_rest (by rw [State.unit_tripAsserted, ht]))
      refine ⟨fun hm => congrArg Host.Outcome.next ?_, fun hm => congrArg Host.Outcome.next ?_⟩
      · rw [hevent, State.tripEvent_tripped (by rw [hu1, hm])]
        exact State.drainCheck_of_sound ((hcalm.trans (State.calm_updUnit ⟨rfl, rfl, rfl⟩)).dispatcherStateSound hsound)
      · rw [hevent, State.tripEvent_out (by rw [hu1, hm])]
        exact State.drainCheck_of_sound (((hcalm.trans (State.calm_updUnit ⟨rfl, rfl, rfl⟩)).trans
          (State.calm_reportTrip _)).dispatcherStateSound hsound)
    · have henters := State.tripInputSet_enters hin hi hmt hmo
      refine ⟨fun ht hr ho => congrArg Host.Outcome.next ?_, fun ht hr ho hd => congrArg Host.Outcome.next ?_, ?_⟩
      · rw [henters, if_pos ht, State.trippedBy_idle (by rw [State.unit_tripAsserted, ht])
          (by rw [State.unit_tripAsserted, hr]) (by exact ho)]
        exact State.drainCheck_of_sound (((hcalm.trans (State.calm_updUnit ⟨rfl, rfl, rfl⟩)).trans
          ((State.calm_originate _).trans (State.calm_dutyEvent _))).dispatcherStateSound hsound)
      · rw [henters, if_neg ht]
        obtain ⟨t, heq, _, _, _, _, _, horders, hclaim⟩ := State.trippedBy_unit (s := s1) (u := u) (d := 0)
        have hnil : t.orders = [] := List.eq_nil_iff_forall_not_mem.mpr fun o hmem => by
          have := (horders o hmem).1
          rw [show s1.orders = [] from ho] at this
          exact List.not_mem_nil this
        have hnone : (t.unit u).reserveClaim = none := by
          cases hc : (t.unit u).reserveClaim with
          | none => rfl
          | some c =>
            have := (hclaim c hc).1
            rw [hu1] at this
            exact absurd (hr.symm.trans this) nofun
        have hdisp : t.dispatcher = s.dispatcher := by
          rw [← heq, (Judged.trippedBy (s := s1) 0).dispatcher]
          rfl
        rw [show (s.tripAsserted u).trippedBy u 0 = t from heq, State.startAttempt_idle hnone hnil,
          State.drainCheck_of_not_draining (by rwa [hdisp]), ← heq]
        exact State.trippedBy_moving (by rw [hu1, hr]) ho
      · refine ⟨_, congrArg Host.Outcome.next henters, ?_⟩
        obtain ⟨t, heq, hmode, hseen, hinput, hnone, hhold, horders, hclaim⟩ :=
          State.trippedBy_unit (s := s1) (u := u) (d := 0)
        have hcut : s1.cutOf u = s.cutOf u := by
          unfold State.cutOf
          rw [hu1]
        rw [hcut] at horders hclaim
        rw [hu1] at hinput hhold hclaim
        rw [show (s.tripAsserted u).trippedBy u 0 = t from heq, State.unit_drainCheck, State.orders_drainCheck]
        have hall : ∀ v : State, Keeps t v → LeftAlone u t v → v.orders.Sublist t.orders →
            (v.unit u).mode = .tripped ∧ (v.unit u).tripSeen = true ∧ (v.unit u).tripInput = true ∧
              (v.unit u).transition = none ∧ ((s.unit u).transition ≠ none → (v.unit u).holdQueue = []) ∧
              (∀ o ∈ v.orders, o.target = .unit u → s.cutOf u = some { origin := o.origin, tag := o.tag }) ∧
              ∀ c, (v.unit u).reserveClaim = some c → (s.unit u).reserveClaim = some c ∧
                s.cutOf u = some { origin := .reserve, tag := natHalf (lineNumber c.line) } := by
          intro v hkeeps hleft hsub
          obtain ⟨hm, _, _, hi, _, _, _, hs, _⟩ := hkeeps.units u
          obtain ⟨htr, hrc, hhq⟩ := hleft hnone
          exact ⟨hm.trans hmode, hs.trans hseen, hi.trans hinput, htr, fun h => hhq.trans (hhold h),
            fun o ho => (horders o (hsub.subset ho)).2, fun c hc => hclaim c (hrc.symm.trans hc)⟩
        split
        · exact hall t (.refl t) (.refl u t) (List.Sublist.refl _)
        · exact hall _ (inert_keeps.startAttempt (inert_keeps.refl t))
            (State.leftAlone_startAttempt u fun m => by rw [hmode]; exact nofun) State.moves_startAttempt.orders_sublist.1
  · intro s1 hin hi hmt hmo tripped
    exact congrArg Host.Outcome.next (State.tripInputSet_enters hin hi hmt hmo)

/-! ## OUT (R16 to R19) -/

namespace State

variable {s : State} {u : UnitNo}

theorem writeOutSource_same {f : UnitRecord → UnitRecord}
    (h : (f (s.unit u)).outCondition = (s.unit u).outCondition) : s.writeOutSource u f = s.updUnit u f := by
  unfold writeOutSource
  dsimp only
  rw [unit_updUnit_self, h]
  cases (s.unit u).outCondition <;> rfl

theorem writeOutSource_enters {f : UnitRecord → UnitRecord} (h : (s.unit u).outCondition = false)
    (hf : (f (s.unit u)).outCondition = true) : s.writeOutSource u f = (s.updUnit u f).enterOut u := by
  unfold writeOutSource
  dsimp only
  rw [unit_updUnit_self, h, hf]

theorem writeOutSource_leaves {f : UnitRecord → UnitRecord} (h : (s.unit u).outCondition = true)
    (hf : (f (s.unit u)).outCondition = false) : s.writeOutSource u f = (s.updUnit u f).leaveOut u := by
  unfold writeOutSource
  dsimp only
  rw [unit_updUnit_self, h, hf]

/-- Unit u taken out, before its start attempt: the mode, the end of its transition, and what fails with it (R17). -/
def takenOut (u : UnitNo) (s : State) : State :=
  ((s.updUnit u fun r => { r with mode := .out }).endTransition u .failed .unitOut false).waitingFails u none .unitOut

theorem enterOut_eq : s.enterOut u =
    if (s.unit u).transition = none then s.takenOut u else (s.takenOut u).startAttempt u := by
  have hmode : s.changeMode u .out = s.updUnit u fun r => { r with mode := .out } := changeMode_quiet rfl
  unfold enterOut takenOut
  dsimp only
  rw [hmode, failReserve_failQueued]
  cases (s.unit u).transition <;> rfl

/-- Leaving OUT is a change of mode that is not counted (R19). -/
theorem leaveOut_eq : s.leaveOut u =
    s.updUnit u fun r => { r with mode := if r.tripInput then .tripped else .unknown } := by
  unfold leaveOut
  rw [changeMode_quiet (by split <;> rfl)]
  exact updUnit_congr rfl

theorem takenOut_unit :
    ((s.takenOut u).unit u).mode = .out ∧ ((s.takenOut u).unit u).outInput = (s.unit u).outInput ∧
      ((s.takenOut u).unit u).transition = none ∧ ((s.takenOut u).unit u).reserveClaim = none ∧
      ((s.unit u).transition ≠ none → ((s.takenOut u).unit u).holdQueue = []) ∧
      ∀ o ∈ (s.takenOut u).orders, o ∈ s.orders ∧ o.target ≠ .unit u := by
  set s1 := s.updUnit u fun r => { r with mode := .out } with hs1
  set s2 := s1.endTransition u .failed .unitOut false with hs2
  have hout : s.takenOut u = s2.waitingFails u none .unitOut := rfl
  have hu1 : s1.unit u = { s.unit u with mode := .out } := unit_updUnit_self ..
  have hkeeps : Keeps s1 s2 := inert_keeps.endTransition (inert_keeps.refl s1)
  obtain ⟨hmode, _, hinput, _⟩ := hkeeps.units u
  obtain ⟨c, hu3, hc⟩ := unit_waitingFails_self (s := s2) (u := u) (spared := none) (r := .unitOut)
  rw [hout, hu3, orders_waitingFails, hs2, orders_endTransition]
  refine ⟨hmode.trans (by rw [hu1]), hinput.trans (by rw [hu1]), transition_endTransition, ?_,
    fun ht => (endTransition_some (by rwa [hu1])).2.1, fun o ho => ?_⟩
  · cases c with
    | none => rfl
    | some x => exact absurd (hc x rfl).2 nofun
  · obtain ⟨hmem, hkeep⟩ := List.mem_filter.mp ho
    exact ⟨hmem, by simpa using hkeep⟩

/-- With no transition in flight and nothing waiting, only the mode changes. -/
theorem takenOut_idle (ht : (s.unit u).transition = none) (hr : (s.unit u).reserveClaim = none) (ho : s.orders = []) :
    s.takenOut u = s.updUnit u fun r => { r with mode := .out } := by
  unfold takenOut
  rw [endTransition_none (by rw [unit_updUnit_self, ht]), waitingFails_idle (by rw [unit_updUnit_self, hr]) (by exact ho)]

/-- With nothing waiting, only the transition's end follows the mode. -/
theorem takenOut_moving (hr : (s.unit u).reserveClaim = none) (ho : s.orders = []) : s.takenOut u =
    (s.updUnit u fun r => { r with mode := .out }).endTransition u .failed .unitOut false := by
  unfold takenOut
  rw [waitingFails_idle]
  · rw [reserveClaim_endTransition, unit_updUnit_self, hr]
  · exact orders_endTransition.trans ho

/-- Unit u's OUT line reported at a level. -/
def outReported (u : UnitNo) (b : Bool) (s : State) : State :=
  (s.setOutLine u b).updUnit u fun r => { r with outInput := b, outDebounce := none }

theorem unit_outReported (b : Bool) : (s.outReported u b).unit u = { s.unit u with outInput := b, outDebounce := none } :=
  unit_updUnit_self (s.setOutLine u b) u fun r => { r with outInput := b, outDebounce := none }

theorem outInputTakes_absent {b : Bool} (h : s.plan.station.unitCount.toNat ≤ u.val) :
    s.outInputTakes u b = s.setOutLine u b := by
  unfold outInputTakes
  exact if_neg fun hc => Nat.not_lt.mpr h (of_decide_eq_true hc)

theorem outInputTakes_present {b : Bool} (h : u.val < s.plan.station.unitCount.toNat) :
    s.outInputTakes u b = (((s.setOutLine u b).updUnit u fun r => { r with outDebounce := none }).writeOutSource u
      fun r => { r with outInput := b }).drainCheck := by
  unfold outInputTakes
  exact if_pos (decide_eq_true h)

theorem outReported_eq (b : Bool) : ((s.setOutLine u b).updUnit u fun r => { r with outDebounce := none }).updUnit u
    (fun r => { r with outInput := b }) = s.outReported u b := updUnit_updUnit _ _

theorem outInputTakes_same {b : Bool} (hs : s.DispatcherStateSound) (hin : u.val < s.plan.station.unitCount.toNat)
    (h : (s.unit u).outInput = b ∨ (s.unit u).configuredOut = true) : s.outInputTakes u b = s.outReported u b := by
  have hcalm : Calm s (s.outReported u b) :=
    Calm.trans (t := s.setOutLine u b) calm_fields (calm_updUnit ⟨rfl, rfl, rfl⟩)
  rw [outInputTakes_present hin, writeOutSource_same, outReported_eq]
  · exact drainCheck_of_sound (hcalm.dispatcherStateSound hs)
  · rw [unit_updUnit_self]
    show (b || (s.unit u).configuredOut) = ((s.unit u).outInput || (s.unit u).configuredOut)
    rcases h with h | h
    · rw [h]
    · rw [h, Bool.or_true, Bool.or_true]

theorem outInputTakes_enters (hin : u.val < s.plan.station.unitCount.toNat) (ho : (s.unit u).outInput = false)
    (hc : (s.unit u).configuredOut = false) : s.outInputTakes u true =
      (if (s.unit u).transition = none then (s.outReported u true).takenOut u
        else ((s.outReported u true).takenOut u).startAttempt u).drainCheck := by
  rw [outInputTakes_present hin, writeOutSource_enters, outReported_eq, enterOut_eq, unit_outReported]
  · rw [unit_updUnit_self]
    show ((s.unit u).outInput || (s.unit u).configuredOut) = false
    rw [ho, hc]
    rfl
  · rw [unit_updUnit_self]
    exact Bool.true_or _

theorem outInputTakes_leaves (hs : s.DispatcherStateSound) (hin : u.val < s.plan.station.unitCount.toNat)
    (ho : (s.unit u).outInput = true) (hc : (s.unit u).configuredOut = false) : s.outInputTakes u false =
      (s.outReported u false).updUnit u fun r => { r with mode := if r.tripInput then .tripped else .unknown } := by
  have hcalm : Calm s (s.outReported u false) :=
    Calm.trans (t := s.setOutLine u false) calm_fields (calm_updUnit ⟨rfl, rfl, rfl⟩)
  rw [outInputTakes_present hin, writeOutSource_leaves, outReported_eq, leaveOut_eq]
  · exact drainCheck_of_sound ((hcalm.trans (calm_updUnit ⟨rfl, rfl, rfl⟩)).dispatcherStateSound hs)
  · rw [unit_updUnit_self]
    show ((s.unit u).outInput || (s.unit u).configuredOut) = true
    rw [ho]
    rfl
  · rw [unit_updUnit_self]
    exact hc

theorem outReported_out : (s.outReported u true).updUnit u (fun r => { r with mode := .out }) =
    (s.setOutLine u true).updUnit u fun r => { r with outInput := true, outDebounce := none, mode := .out } :=
  updUnit_updUnit _ _

end State

/-- Settles O21: the line by whether it turns the out condition; entry into OUT is `takenOut`, then a start attempt
if it ended a transition. -/
theorem outLineTakesItsUnitOutAndReleasesIt : Obligations.OutLineTakesItsUnitOutAndReleasesIt := by
  refine ⟨fun u s hsound => ?_, fun u s hsound => ?_, fun u s => ?_⟩
  · intro s1
    refine ⟨fun h => congrArg Host.Outcome.next (State.outInputTakes_absent h), fun hin => ⟨fun h => ?_, fun ho hc => ?_⟩⟩
    · exact congrArg Host.Outcome.next (State.outInputTakes_same hsound hin h)
    · have henters := State.outInputTakes_enters hin ho hc
      have hu1 := State.unit_outReported (s := s) (u := u) true
      set s2 := s.outReported u true with hs2
      obtain ⟨hmode, hinput, hnone, hclaim, hhold, horders⟩ := State.takenOut_unit (s := s2) (u := u)
      refine ⟨fun ht hr hor => congrArg Host.Outcome.next ?_, fun ht hr hor hd => congrArg Host.Outcome.next ?_,
        _, congrArg Host.Outcome.next henters, ?_⟩
      · have hr2 : (s2.unit u).reserveClaim = none := by rw [hu1, hr]
        rw [henters, if_pos ht, State.takenOut_idle (by rw [hu1, ht]) hr2 (by exact hor), State.outReported_out]
        refine State.drainCheck_of_sound (Calm.dispatcherStateSound ?_ hsound)
        exact Calm.trans (t := s.setOutLine u true) State.calm_fields (State.calm_updUnit ⟨rfl, rfl, rfl⟩)
      · have hnil : (s2.takenOut u).orders = [] := List.eq_nil_iff_forall_not_mem.mpr fun o hmem => by
          have := (horders o hmem).1
          rw [show s2.orders = [] from hor] at this
          exact List.not_mem_nil this
        have hmoving := State.takenOut_moving (s := s2) (u := u) (by rw [hu1, hr]) hor
        have hdisp : (s2.takenOut u).dispatcher = s.dispatcher := by
          rw [hmoving]
          exact (inert_keeps.endTransition (inert_keeps.refl (s2.updUnit u fun r => { r with mode := .out }))).dispatcher
        rw [henters, if_neg ht, State.startAttempt_idle hclaim hnil, State.drainCheck_of_not_draining (by rwa [hdisp]),
          hmoving, State.outReported_out]
        rfl
      · rw [State.unit_drainCheck, State.orders_drainCheck]
        have hall : ∀ v : State, Keeps (s2.takenOut u) v → LeftAlone u (s2.takenOut u) v →
            v.orders.Sublist (s2.takenOut u).orders →
            (v.unit u).mode = .out ∧ (v.unit u).outInput = true ∧ (v.unit u).transition = none ∧
              (v.unit u).reserveClaim = none ∧ ((s.unit u).transition ≠ none → (v.unit u).holdQueue = []) ∧
              ∀ o ∈ v.orders, o.target ≠ .unit u := by
          intro v hkeeps hleft hsub
          obtain ⟨hm, _, hi, _⟩ := hkeeps.units u
          obtain ⟨htr, hrc, hhq⟩ := hleft hnone
          exact ⟨hm.trans hmode, hi.trans (hinput.trans (by rw [hu1])), htr, hrc.trans hclaim,
            fun h => hhq.trans (hhold (by rwa [hu1])), fun o ho => (horders o (hsub.subset ho)).2⟩
        split
        · exact hall _ (.refl _) (.refl u _) (List.Sublist.refl _)
        · exact hall _ (inert_keeps.startAttempt (inert_keeps.refl _))
            (State.leftAlone_startAttempt u fun m => by rw [hmode]; exact nofun) State.moves_startAttempt.orders_sublist.1
  · intro s1
    refine ⟨fun h => congrArg Host.Outcome.next (State.outInputTakes_absent h), fun hin => ⟨fun h => ?_, fun ho hc => ?_⟩⟩
    · exact congrArg Host.Outcome.next (State.outInputTakes_same hsound hin h)
    · refine congrArg Host.Outcome.next ((State.outInputTakes_leaves hsound hin ho hc).trans ?_)
      exact State.updUnit_updUnit _ _
  · intro s1 hin ho hc taken
    have htaken : (s.outReported u true).takenOut u = taken := by
      unfold State.takenOut
      rw [State.outReported_out]
      rfl
    exact congrArg Host.Outcome.next (htaken ▸ State.outInputTakes_enters hin ho hc)

end Sys2Proof.Machine
end

section
/-!
PROOFS. The reports of a moving unit: the completion of a phase and the end of a transition (R7, R71 to R73, R81, R86).
-/

namespace Sys2Proof.Machine

namespace State

variable {s : State} {u : UnitNo} {w : Word} {x : Transition}

/-! ## Completion (R72, R73, R81) -/

theorem recognise_moving (ht : (s.unit u).transition ≠ none) (h : ∀ i, s.recognise u w ≠ .trip i) :
    s.recognise u w = .none := by
  unfold recognise at h ⊢
  split
  · next i hi => exact absurd (by rw [hi]) (h i)
  · exact if_pos (Option.isSome_iff_ne_none.mpr ht)

theorem reportMoving_trip {i : Fin 12} (hr : s.recognise u w = .trip i) :
    s.reportMoving u x w = (s.tripEvent u (natHalf (0x100 + i.val)), true) := by
  unfold reportMoving
  rw [hr]
  rfl

theorem reportMoving_goesOn (hr : s.recognise u w = .none)
    (h : x.phaseState = .waiting ∨
      w &&& (s.currentPhase x).statusMask ≠ (s.currentPhase x).statusValue &&& (s.currentPhase x).statusMask) :
    s.reportMoving u x w = (s, false) := by
  unfold reportMoving
  rw [hr]
  refine if_neg fun hc => ?_
  obtain ⟨hrunning, hmatch⟩ := hc
  rcases h with h | h
  · exact absurd (h.symm.trans hrunning) nofun
  · exact h (wordMatches_iff.mp hmatch)

theorem reportMoving_completes (hr : s.recognise u w = .none) (hp : x.phaseState = .running)
    (h : w &&& (s.currentPhase x).statusMask = (s.currentPhase x).statusValue &&& (s.currentPhase x).statusMask) :
    s.reportMoving u x w = (s.completePhase u, ((s.completePhase u).unit u).transition.isNone) := by
  unfold reportMoving
  rw [hr]
  exact if_pos ⟨hp, wordMatches_iff.mpr h⟩

theorem land_eq (p : Phase) : s.land u p =
    ((if p.keep = .waterway ∨ p.keep = .both then if p.keep = .converter ∨ p.keep = .both then s else s.releaseConverter u
      else (if p.keep = .converter ∨ p.keep = .both then s else s.releaseConverter u).releaseWindow u).updUnit u fun r =>
        { r with transition := r.transition.map fun y => { y with lastLanding := p.landing } }).changeMode u
          (.settled p.landing) := by
  unfold land
  cases p.keep <;> rfl

theorem settleSetpoint_eq (m : Mode) (sp : Half) : s.settleSetpoint u m sp =
    if (m = .gen ∨ m = .pmp) ∧ (s.unit u).lastSetpoint ≠ sp then
      (s.sendUnitCommand u s.plan.station.setpointCommand sp 0xFF 0 0).updUnit u fun r => { r with lastSetpoint := sp }
    else s := by
  have htakes : takesSetpoint m = true ↔ m = .gen ∨ m = .pmp := by cases m <;> simp [takesSetpoint]
  unfold settleSetpoint
  simp only [Bool.and_eq_true, htakes, decide_eq_true_eq]
  rfl

theorem completePhase_cut (ht : (s.unit u).transition = some x) (hc : x.cut ≠ none) :
    s.completePhase u = (s.land u (s.currentPhase x)).endTransition u .cut .none false := by
  unfold completePhase
  rw [ht]
  exact if_pos (Option.isSome_iff_ne_none.mpr hc)

theorem completePhase_last (ht : (s.unit u).transition = some x) (hc : x.cut = none)
    (hlast : x.phaseNo = s.phaseCount x) : s.completePhase u =
      ((s.land u (s.currentPhase x)).settleSetpoint u x.target x.setpoint).endTransition u .done .none false := by
  unfold completePhase
  rw [ht]
  dsimp only
  rw [hc, if_neg (by simp), if_pos hlast]

theorem completePhase_next (ht : (s.unit u).transition = some x) (hc : x.cut = none)
    (hlast : x.phaseNo ≠ s.phaseCount x) :
    s.completePhase u = (s.land u (s.currentPhase x)).phaseStart u (x.phaseNo + 1) := by
  unfold completePhase
  rw [ht]
  dsimp only
  rw [hc, if_neg (by simp), if_neg hlast]

theorem mode_land (p : Phase) : ((s.land u p).unit u).mode = .settled p.landing := by
  rw [land_eq, unit_changeMode_self]

theorem mode_completePhase (ht : (s.unit u).transition = some x) :
    ((s.completePhase u).unit u).mode = .settled (s.currentPhase x).landing := by
  have hkept : ∀ t, Keeps (s.land u (s.currentPhase x)) t → (t.unit u).mode = .settled (s.currentPhase x).landing :=
    fun t h => (h.mode u).trans (mode_land _)
  have hrefl := inert_keeps.refl (s.land u (s.currentPhase x))
  by_cases hc : x.cut = none
  · by_cases hlast : x.phaseNo = s.phaseCount x
    · rw [completePhase_last ht hc hlast]
      exact hkept _ (inert_keeps.endTransition (inert_keeps.settleSetpoint hrefl))
    · rw [completePhase_next ht hc hlast]
      exact hkept _ (inert_keeps.phaseStart hrefl)
  · rw [completePhase_cut ht hc]
    exact hkept _ (inert_keeps.endTransition hrefl)

/-- The next phase keeps the transition. -/
theorem transition_phaseStart_land (ht : (s.unit u).transition = some x) (p : Phase) (k : Nat) :
    (((s.land u p).phaseStart u k).unit u).transition ≠ none := by
  have hcalm : Calm s ((s.land u p).phaseStart u k) := (calm_land p).trans (calm_phaseStart k)
  rw [ne_eq, (hcalm.waiting u).1, ht]
  exact nofun

/-! ## The phase that becomes RUNNING (R67, R69) -/

theorem sendUnitCommand_updUnit (f : UnitRecord → UnitRecord) (v : UnitNo) (c : Byte) (sp : Half) (cv r p : Byte) :
    (s.updUnit u f).sendUnitCommand v c sp cv r p = (s.sendUnitCommand v c sp cv r p).updUnit u f :=
  originate_updUnit ..

theorem unit_sendUnitCommand (v w : UnitNo) (c : Byte) (sp : Half) (cv r p : Byte) :
    (s.sendUnitCommand v c sp cv r p).unit w = s.unit w := unit_originate ..

theorem becomeRunning_eq (ht : (s.unit u).transition = some x) : s.becomeRunning u =
    (s.sendUnitCommand u (s.currentPhase x).command (if (s.currentPhase x).sendSetpoint then x.setpoint else 0)
      (converterByte x.heldConverter) (natByte x.route.val) (natByte x.phaseNo)).updUnit u fun r =>
        { r with
          lastSetpoint := if (s.currentPhase x).sendSetpoint then x.setpoint else r.lastSetpoint
          transition := some
            { x with phaseState := .running, deadline := s.now + 100 * (s.currentPhase x).timeLimit.toNat } } := by
  unfold becomeRunning
  rw [ht]
  dsimp only
  have htr : ((s.updTransition u fun t => { t with phaseState := .running }).unit u).transition =
      some { x with phaseState := .running } := by
    rw [updTransition, unit_updUnit_self, ht]
    rfl
  have hphase : (s.updTransition u fun t => { t with phaseState := .running }).currentPhase
      { x with phaseState := .running } = s.currentPhase x := rfl
  unfold sendPhaseCommand
  rw [htr]
  dsimp only
  rw [hphase]
  split <;>
  · simp only [updTransition, sendUnitCommand_updUnit, updUnit_updUnit]
    refine updUnit_congr ?_
    rw [unit_sendUnitCommand, ht]
    simp [inTenths, currentPhase, phaseAt, sendUnitCommand]

theorem transition_updTransition (f : Transition → Transition) (ht : (s.unit u).transition = some x) :
    ((s.updTransition u f).unit u).transition = some (f x) := by
  rw [updTransition, unit_updUnit_self, ht]
  rfl

/-- A phase that claims nothing starts RUNNING. -/
theorem phaseStart_unclaimed {k : Nat} (ht : (s.unit u).transition = some x)
    (hclaim : (s.phaseAt x.route k).claim = .none) : s.phaseStart u k =
      (s.updTransition u fun t => { t with phaseNo := k, retriesUsed := 0 }).becomeRunning u := by
  unfold phaseStart
  rw [ht]
  dsimp only
  rw [hclaim]
  rfl

/-! ## The end with nothing held (R86) -/

theorem releaseConverter_none (h : ∀ y, (s.unit u).transition = some y → y.heldConverter = none) :
    s.releaseConverter u = s := by
  unfold releaseConverter
  split
  · rfl
  · next y hy => rw [h y hy]

theorem releaseWindow_none (h : ∀ y, (s.unit u).transition = some y → y.heldWaterway = none) :
    s.releaseWindow u = s := by
  unfold releaseWindow
  split
  · rfl
  · next y hy => rw [h y hy]

theorem rejudge_empty (h : (s.unit u).holdQueue = []) : s.rejudge u = s := by
  unfold rejudge
  rw [h]
  refine updUnit_eq_self ?_
  rw [← h]

/-- The end of a transition that holds nothing, for a unit that holds no telegram. -/
theorem endTransition_bare {st : Status} {r : Reason} {e : DutyEvent} (he : endEvent st = some e)
    (ht : (s.unit u).transition = some x) (hc : x.heldConverter = none) (hw : x.heldWaterway = none)
    (hh : (s.unit u).holdQueue = []) : s.endTransition u st r false =
      ((((s.withdrawEntry u).sendStatus x.reference st r (unitByte u) (modeCode x.target) x.source).dutyEvent e u).updUnit u
        fun y => { y with transition := none }) := by
  have hu : (s.withdrawEntry u).unit u = s.unit u := unit_withdrawEntry u
  unfold endTransition
  rw [ht]
  dsimp only
  rw [he, if_neg Bool.false_ne_true, releaseConverter_none (s := s.withdrawEntry u), releaseWindow_none, rejudge_empty]
  · rfl
  · rw [unit_updUnit_self, unit_dutyEvent, sendTransitionStatus, sendStatus, unit_originate, hu]
    exact hh
  · intro y hy
    rw [hu, ht] at hy
    injection hy with hy
    rw [← hy, hw]
  · intro y hy
    rw [hu, ht] at hy
    injection hy with hy
    rw [← hy, hc]

theorem unit_settleSetpoint (m : Mode) (sp : Half) :
    ∃ l, (s.settleSetpoint u m sp).unit u = { s.unit u with lastSetpoint := l } := by
  unfold settleSetpoint
  split
  · exact ⟨sp, by rw [sendSetpointCommand, unit_updUnit_self, unit_sendUnitCommand]⟩
  · exact ⟨_, rfl⟩

/-! ## The report of a moving unit -/

theorem currentPhase_congr {t : State} (h : t.plan = s.plan) (x : Transition) : t.currentPhase x = s.currentPhase x := by
  simp only [currentPhase, phaseAt, h]

theorem reportTaken_moving (src : Byte) (rep : Report) (ht : (s.unit u).transition = some x) :
    (((s.heard .unit src).reportTaken u rep).unit u).mode = (s.unit u).mode ∧
      (((s.heard .unit src).reportTaken u rep).unit u).transition = some x ∧
      ((s.heard .unit src).reportTaken u rep).plan = s.plan ∧
      ((s.heard .unit src).reportTaken u rep).recognise u w = s.recognise u w := by
  have hunit := unit_reportTaken (s := s.heard .unit src) (u := u) (rep := rep) u
  rw [if_pos rfl, unit_heard] at hunit
  have hplan : ((s.heard .unit src).reportTaken u rep).plan = s.plan := (plan_reportTaken rep).trans (heard_plan ..)
  have htr : (((s.heard .unit src).reportTaken u rep).unit u).transition = (s.unit u).transition := by rw [hunit]
  exact ⟨by rw [hunit], htr.trans ht, hplan, recognise_congr hplan htr⟩

end State

/-- Settles O19: the report by what landing the phase leaves: the next phase, or the end of the transition. -/
theorem reportCompletesTheRunningPhase : Obligations.ReportCompletesTheRunningPhase := by
  refine ⟨?modes, ⟨?last, (and_iff_right_of_imp fun hrest => ?next).mpr
    ((and_iff_right_of_imp fun hrest => ?awake).mpr ⟨?ends, ?general⟩)⟩⟩
  case modes =>
    intro dst src ident tag w power speed u m x s hs hu hm ht hnotrip p
    set rep : Report := { statusWord := w, power := power, speed := speed }
    obtain ⟨hmode, htr, hplan, hrec⟩ := State.reportTaken_moving (w := w) src rep ht
    set taken := (s.heard .unit src).reportTaken u rep
    have hp : taken.currentPhase x = p := State.currentPhase_congr hplan x
    have hmoving := State.reportByCondition_moving (w := w) (hmode.trans hm) htr
    have hnone : taken.recognise u w = .none :=
      State.recognise_moving (by rw [htr]; exact nofun) (by rw [hrec]; exact hnotrip)
    by_cases hdone : x.phaseState = .running ∧ w &&& p.statusMask = p.statusValue &&& p.statusMask
    · obtain ⟨hrun, hmatch⟩ := hdone
      have hcompletes := State.reportMoving_completes hnone hrun (by rwa [hp])
      refine ⟨_, exec_unitReport_judged hs hu (hmoving.trans hcompletes), fun _ _ => ?_, fun _ h => ?_⟩
      · have hlanded : ((taken.completePhase u).unit u).mode = .settled p.landing := hp ▸ State.mode_completePhase htr
        rw [State.unit_forwardTo, State.unit_drainCheck]
        split
        · rw [(inert_keeps.startAttempt (inert_keeps.refl _)).mode]
          exact hlanded
        · exact hlanded
      · rcases h with h | h
        · exact absurd (hrun.symm.trans h) nofun
        · exact absurd hmatch h
    · have hgoes : x.phaseState = .waiting ∨ w &&& p.statusMask ≠ p.statusValue &&& p.statusMask := by
        cases hstate : x.phaseState with
        | running => exact .inr fun h => hdone ⟨hstate, h⟩
        | waiting => exact .inl rfl
      have hstays := State.reportMoving_goesOn hnone (by rwa [hp])
      refine ⟨_, exec_unitReport_judged hs hu (hmoving.trans hstays), fun hrun hmatch => absurd ⟨hrun, hmatch⟩ hdone,
        fun hsilent _ => ?_⟩
      rw [State.unit_forwardTo, State.unit_drainCheck, hsilent, if_neg (by simp)]
      exact ⟨hmode.trans hm, htr⟩
  case ends =>
    intro u x st reason s hx answered ended discarded
    unfold State.endTransition
    rw [hx]
    refine ⟨?_, ?_, ?_⟩ <;> rintro rfl <;> exact ⟨rfl, rfl⟩
  case general =>
    intro dst src ident tag w power speed u m x s hs hu hm ht payload taken result stays
    set rep : Report := { statusWord := w, power := power, speed := speed }
    obtain ⟨hmode, htr, hplan, hrec⟩ := State.reportTaken_moving (w := w) src rep ht
    have hmoving : taken.reportByCondition u w = taken.reportMoving u x w :=
      State.reportByCondition_moving (hmode.trans hm) htr
    have hstays : ∀ t, taken.reportMoving u x w = (t, false) → stays t := fun t h => by
      have := exec_unitReport_judged (dst := dst) (ident := ident) (tag := tag) hs hu (hmoving.trans h)
      rwa [Bool.or_false] at this
    have hattempts : ∀ t, taken.reportMoving u x w = (t, true) → result (t.startAttempt u) := fun t h => by
      have := exec_unitReport_judged (dst := dst) (ident := ident) (tag := tag) hs hu (hmoving.trans h)
      rwa [Bool.or_true, if_pos rfl] at this
    refine ⟨fun i hi => ?_, ?_⟩
    · refine hattempts _ ((State.reportMoving_trip (hrec.trans hi)).trans ?_)
      rw [State.tripEvent_enters] <;> rw [hmode, hm] <;> exact nofun
    · intro hnotrip p
      have hp : taken.currentPhase x = p := State.currentPhase_congr hplan x
      have hcount : taken.phaseCount x = s.plan.routes[x.route.val].phaseCount := by
        unfold State.phaseCount
        rw [hplan]
      have hnone : taken.recognise u w = .none :=
        State.recognise_moving (by rw [htr]; exact nofun) (by rw [hrec]; exact hnotrip)
      refine ⟨fun h => hstays _ (State.reportMoving_goesOn hnone (by rwa [hp])), fun hrun hmatch => ?_⟩
      have hcompletes := State.reportMoving_completes hnone hrun (by rwa [hp])
      intro s2 s3 landed
      have hland : taken.land u (taken.currentPhase x) = landed := by
        rw [hp]
        exact State.land_eq p
      refine ⟨fun hc => ?_, fun hc hlast => ?_, fun hc hlast => ?_⟩
      · have hend := State.completePhase_cut htr hc
        rw [hland] at hend
        refine hattempts _ (hcompletes.trans ?_)
        rw [hend, State.transition_endTransition]
        rfl
      · intro commanded
        have hend := State.completePhase_last htr hc (hlast.trans hcount.symm)
        have hplan' : landed.plan = s.plan := by
          rw [← hland, (Judged.land _).tables.1, hplan]
        have hcommanded : landed.settleSetpoint u x.target x.setpoint = commanded := by
          rw [State.settleSetpoint_eq, hplan']
        rw [hland, hcommanded] at hend
        refine hattempts _ (hcompletes.trans ?_)
        rw [hend, State.transition_endTransition]
        rfl
      · have hnext := State.completePhase_next htr hc fun h => hlast (h.trans hcount)
        have hkept := State.transition_phaseStart_land htr (taken.currentPhase x) (x.phaseNo + 1)
        rw [hland] at hnext hkept
        refine hstays _ (hcompletes.trans ?_)
        rw [hnext, Option.isNone_eq_false_iff.mpr (Option.isSome_iff_ne_none.mpr hkept)]
  case awake =>
    intro dst src ident tag w power speed u m x s hs hu hm ht hsilent hnotrip hrun p hmatch payload s1 s2 s3 landed result
      ended
    have htaken := State.reportTaken_heard (s := s) (u := u) src
      (rep := { statusWord := w, power := power, speed := speed }) hsilent
    obtain ⟨hcut, hlast, hnext⟩ :=
      ((hrest.2 dst src ident tag w power speed u m x s hs hu hm ht).2 hnotrip).2 hrun hmatch
    rw [htaken] at hcut hlast hnext
    refine ⟨hcut, hlast, fun hc hno => ?_⟩
    have htr1 : (s1.unit u).transition = some x := by rw [State.unit_updUnit_self, State.unit_heard, ht]
    have hkept : ((landed.phaseStart u (x.phaseNo + 1)).unit u).transition ≠ none := by
      have := State.transition_phaseStart_land htr1 p (x.phaseNo + 1)
      rwa [State.land_eq] at this
    have hresult : exec (.unitReport dst src ident tag payload) s = .next
        ((if (s.unit u).silent = true then (landed.phaseStart u (x.phaseNo + 1)).startAttempt u
          else landed.phaseStart u (x.phaseNo + 1)).drainCheck.forwardTo .plant
            (unitReportTelegram dst src ident tag payload)) := hnext hc hno
    rw [hsilent, if_neg Bool.false_ne_true, State.drainCheck_of_left (.inl hkept)] at hresult
    exact hresult
  case next =>
    intro dst src ident tag w power speed u m x s hs hu hsound hm ht hsilent hnotrip hrun hcv hww hc hno p q hmatch hq
      payload s1 landed setpoint
    have hnext := (hrest.1 dst src ident tag w power speed u m x s hs hu hm ht hsilent hnotrip hrun hmatch).2.2 hc hno
    have hu1 : (s1.unit u).transition = some x := by rw [State.unit_updUnit_self, State.unit_heard, ht]
    rw [State.releaseConverter_none (s := s1) (by rw [hu1]; rintro y ⟨⟩; exact hcv), ite_self,
      State.releaseWindow_none (s := s1) (by rw [hu1]; rintro y ⟨⟩; exact hww), ite_self] at hnext
    rw [State.updUnit_congr (g := fun r => { r with transition := some { x with lastLanding := p.landing } })
      (by rw [hu1]; rfl)] at hnext
    have hjudged : Judged u s1 landed :=
      (Judged.updUnit (f := fun r => { r with transition := some { x with lastLanding := p.landing } })
        ⟨rfl, rfl, rfl⟩).trans (Judged.changeMode (.settled p.landing))
    have hplan : landed.plan = s.plan := hjudged.tables.1.trans (State.heard_plan ..)
    have hnow : landed.now = s.now := by
      obtain ⟨_, _, _, _, hnow, _⟩ := hjudged.tables
      exact hnow.trans (State.heard_now ..)
    have htl : (landed.unit u).transition = some { x with lastLanding := p.landing } := by
      rw [State.unit_changeMode_self, State.unit_updUnit_self]
    have hql : landed.phaseAt x.route (x.phaseNo + 1) = q := by simp only [State.phaseAt, hplan, q]
    have hstart : landed.phaseStart u (x.phaseNo + 1) =
        (landed.sendUnitCommand u q.command setpoint 0xFF (natByte x.route.val) (natByte (x.phaseNo + 1))).updUnit u
          fun r =>
            { r with
              lastSetpoint := if q.sendSetpoint then x.setpoint else r.lastSetpoint
              transition := some
                { x with
                  lastLanding := p.landing, phaseNo := x.phaseNo + 1, retriesUsed := 0
                  deadline := s.now + 100 * q.timeLimit.toNat } } := by
      rw [State.phaseStart_unclaimed htl (by rw [hql, hq]), State.becomeRunning_eq (State.transition_updTransition _ htl)]
      have hcurrent : (landed.updTransition u fun t => { t with phaseNo := x.phaseNo + 1, retriesUsed := 0 }).currentPhase
          { x with lastLanding := p.landing, phaseNo := x.phaseNo + 1, retriesUsed := 0 } = q := hql
      rw [hcurrent, State.updTransition, State.sendUnitCommand_updUnit, State.updUnit_updUnit]
      dsimp only
      rw [hcv]
      refine State.updUnit_congr ?_
      rw [← hrun, ← hnow]
      rfl
    exact hstart ▸ hnext
  case last =>
    intro dst src ident tag w power speed u m x s hs hu ho hm ht hr hsilent hhold hd hnotrip hrun hcv hww hc hlast p
      hmatch payload s1 landed commanded
    have hu1 : s1.unit u = { s.unit u with
        silenceDeadline := some (s.now + 100 * s.plan.unitEntries[u.val].unitSilence.toNat)
        lastReport := some { statusWord := w, power := power, speed := speed } } := by
      rw [State.unit_updUnit_self, State.unit_heard]
    have htr1 : (s1.unit u).transition = some x := by rw [hu1, ht]
    have hland : s1.land u p = landed := by
      rw [State.land_eq, State.releaseConverter_none (s := s1) (by rw [htr1]; rintro y ⟨⟩; exact hcv), ite_self,
        State.releaseWindow_none (s := s1) (by rw [htr1]; rintro y ⟨⟩; exact hww), ite_self,
        State.updUnit_congr (g := fun r => { r with transition := some { x with lastLanding := p.landing } })
          (by rw [htr1]; rfl)]
    have hul : landed.unit u = { s1.unit u with
        transition := some { x with lastLanding := p.landing }, mode := .settled p.landing } := by
      rw [State.unit_changeMode_self, State.unit_updUnit_self]
    have hplan : landed.plan = s.plan :=
      ((Judged.updUnit (f := fun r => { r with transition := some { x with lastLanding := p.landing } })
        ⟨rfl, rfl, rfl⟩).trans (Judged.changeMode (.settled p.landing))).tables.1.trans (State.heard_plan ..)
    have hcommanded : landed.settleSetpoint u x.target x.setpoint = commanded := by
      rw [State.settleSetpoint_eq, hplan, hul, hu1]
    obtain ⟨l, hucl⟩ := State.unit_settleSetpoint (s := landed) (u := u) x.target x.setpoint
    rw [hcommanded, hul, hu1] at hucl
    have hcalm : Calm (s1.updUnit u fun r => { r with transition := some { x with lastLanding := p.landing } }) commanded := by
      rw [← hcommanded]
      exact (State.calm_changeMode _).trans (State.calm_settleSetpoint _ _)
    have horders : commanded.orders = [] := hcalm.orders.trans ((State.heard_orders ..).trans ho)
    have hdisp : commanded.dispatcher = s.dispatcher := hcalm.dispatcher.trans (State.heard_dispatcher ..)
    have hend : ((commanded.endTransition u .done .none false).startAttempt u).drainCheck =
        commanded.endTransition u .done .none false := by
      rw [State.startAttempt_idle (by rw [State.reserveClaim_endTransition, hucl]; exact hr)
        (State.orders_endTransition.trans horders)]
      refine State.drainCheck_of_not_draining ?_
      rw [(State.moves_endTransition (b := true) .done .none false).dispatcher, hdisp]
      exact hd
    have hbare := State.endTransition_bare (s := commanded) (u := u) (st := .done) (r := .none) rfl
      (x := { x with lastLanding := p.landing }) (by rw [hucl]) hcv hww (by rw [hucl]; exact hhold)
    have hphase : s1.currentPhase x = p := State.currentPhase_congr (State.heard_plan ..) x
    have hrec : s1.recognise u w = s.recognise u w := State.recognise_congr (State.heard_plan ..) (htr1.trans ht.symm)
    have hnone : s1.recognise u w = .none :=
      State.recognise_moving (by rw [htr1]; exact nofun) (by rw [hrec]; exact hnotrip)
    have hcount : x.phaseNo = s1.phaseCount x := hlast.trans (by
      unfold State.phaseCount
      rw [show s1.plan = s.plan from State.heard_plan ..])
    have hjudged : ((s.heard .unit src).reportTaken u
        { statusWord := w, power := power, speed := speed }).reportByCondition u w =
          (commanded.endTransition u .done .none false, true) := by
      rw [State.reportTaken_heard src hsilent]
      refine (State.reportByCondition_moving (m := m) (by rw [hu1, hm]) htr1).trans ?_
      rw [State.reportMoving_completes hnone hrun (by rwa [hphase]), State.completePhase_last htr1 hc hcount, hphase,
        hland, hcommanded, State.transition_endTransition]
      rfl
    have hresult := exec_unitReport_judged (dst := dst) (ident := ident) (tag := tag) hs hu hjudged
    rw [Bool.or_true, if_pos rfl, hend, hbare] at hresult
    exact hresult

end Sys2Proof.Machine
end

section
/-!
PROOFS. The start attempt and the pool pass in equations (R53 to R57), and the phase start (R67): what the statements about
orders, reserve claims and deadlines share.
-/

namespace Sys2Proof.Machine

namespace State

variable {s : State} {u : UnitNo}

/-! ## The candidate that a start attempt takes (R53) -/

theorem isCandidate_iff {o : Order} : s.isCandidate u o = true ↔ o.target = .unit u ∨ s.selectUnit o = some u := by
  simp [isCandidate, Order.isFor]

theorem bestCandidate_none {k : Nat} {os : List Order} (h : ∀ o ∈ os, ¬ s.isCandidate u o = true) :
    s.bestCandidate u k os = none := by
  induction os generalizing k with
  | nil => rfl
  | cons q os ih =>
    unfold bestCandidate
    rw [ih fun o ho => h o (List.mem_cons_of_mem _ ho)]
    exact if_neg (h q List.mem_cons_self)

theorem bestCandidate_mem {k j : Nat} {os : List Order} {b : Order} (h : s.bestCandidate u k os = some (j, b)) :
    ∃ i : Nat, os[i]? = some b ∧ s.isCandidate u b = true := by
  induction os generalizing k j b with
  | nil => exact absurd h nofun
  | cons q os ih =>
    unfold bestCandidate at h
    split at h
    · split at h
      · next hq =>
        obtain ⟨_, rfl⟩ := Prod.mk.inj (Option.some.inj h)
        exact ⟨0, rfl, hq⟩
      · exact absurd h nofun
    · next i b' hb =>
      obtain ⟨n, hn, hcand⟩ := ih hb
      split at h
      · next hq =>
        obtain ⟨_, rfl⟩ := Prod.mk.inj (Option.some.inj h)
        exact ⟨0, rfl, ((Bool.and_eq_true _ _).mp hq).1⟩
      · obtain ⟨_, rfl⟩ := Prod.mk.inj (Option.some.inj h)
        exact ⟨n + 1, hn, hcand⟩

/-- The candidate of highest rank, the oldest among equals, is the one taken. -/
theorem bestCandidate_eq {k i : Nat} {os : List Order} {o : Order} (hi : os[i]? = some o)
    (hcand : s.isCandidate u o = true)
    (hbest : ∀ (j : Nat) (q : Order), os[j]? = some q → s.isCandidate u q = true →
      rank q.origin < rank o.origin ∨ (rank q.origin = rank o.origin ∧ i ≤ j)) :
    s.bestCandidate u k os = some (k + i, o) := by
  induction os generalizing k i with
  | nil => exact absurd hi nofun
  | cons q os ih =>
    unfold bestCandidate
    cases i with
    | zero =>
      obtain rfl : q = o := Option.some.inj hi
      split
      · exact if_pos hcand
      · next j b hb =>
        obtain ⟨n, hn, hb'⟩ := bestCandidate_mem hb
        have hrank : rank b.origin ≤ rank q.origin := by
          rcases hbest (n + 1) b hn hb' with h | h <;> omega
        exact if_pos (by simp [hcand, hrank])
    | succ i =>
      rw [ih (k := k + 1) hi fun j q hq hc => by
        rcases hbest (j + 1) q hq hc with h | ⟨h, hij⟩
        · exact .inl h
        · exact .inr ⟨h, by omega⟩]
      dsimp only
      rw [if_neg]
      · rw [Nat.add_right_comm, Nat.add_assoc]
      · rw [Bool.and_eq_true, decide_eq_true_eq]
        rintro ⟨hq, hle⟩
        rcases hbest 0 q rfl hq with h | ⟨_, h⟩
        · omega
        · omega

theorem takenClaim_reserve {c : ReserveClaim} (h : (s.unit u).reserveClaim = some c) :
    s.takenClaim u = some (.reserve, c.claim) := by
  unfold takenClaim
  rw [h]

theorem takenClaim_queue {i : Nat} {o : Order} (hr : (s.unit u).reserveClaim = none) (hi : s.orders[i]? = some o)
    (hcand : s.isCandidate u o = true)
    (hbest : ∀ (j : Nat) (q : Order), s.orders[j]? = some q → s.isCandidate u q = true →
      rank q.origin < rank o.origin ∨ (rank q.origin = rank o.origin ∧ i ≤ j)) :
    s.takenClaim u = some (.queue i, o.claim) := by
  unfold takenClaim
  rw [hr, bestCandidate_eq hi hcand hbest, Nat.zero_add]

theorem takenClaim_eq_none (hr : (s.unit u).reserveClaim = none) (h : ∀ o ∈ s.orders, ¬ s.isCandidate u o = true) :
    s.takenClaim u = none := by
  unfold takenClaim
  rw [hr, bestCandidate_none h]

/-! ## A round of a start attempt (R53 to R55) -/

/-- Unit u is one that a start attempt can start from mode m. -/
structure AtRest (s : State) (u : UnitNo) (m : Mode) : Prop where
  inService : u.val < s.plan.station.unitCount.toNat
  mode : (s.unit u).mode = .settled m
  silent : (s.unit u).silent = false
  transition : (s.unit u).transition = none

theorem attemptUnit_of_not_rest (h : ∀ m, ¬ s.AtRest u m) : s.attemptUnit u = (s, false) := by
  unfold attemptUnit attemptLoop
  dsimp only
  cases hm : (s.unit u).mode with
  | settled m =>
    refine if_pos ?_
    by_contra hc
    simp only [Bool.or_eq_true, Bool.not_eq_true', not_or, Bool.not_eq_false, Bool.not_eq_true,
      Option.isSome_eq_false_iff, Option.isNone_iff_eq_none, unitInService, decide_eq_true_eq] at hc
    obtain ⟨⟨hin, hs⟩, ht⟩ := hc
    exact h m ⟨hin, hm, hs, ht⟩
  | tripped => rfl
  | out => rfl
  | unknown => rfl

theorem attemptLoop_rest {m : Mode} {n : Nat} (h : s.AtRest u m) :
    (s.takenClaim u = none → attemptLoop (n + 1) u s = (s, false)) ∧
      ∀ slot c, s.takenClaim u = some (slot, c) →
        (c.mode = m → attemptLoop (n + 1) u s = ((attemptLoop n u (s.completeAtOnce u slot c)).1, true)) ∧
        (c.mode ≠ m →
          (s.lookupRoute u m c.mode = none →
            attemptLoop (n + 1) u s = ((attemptLoop n u (s.failNoRoute u slot c)).1, true)) ∧
          ∀ r, s.lookupRoute u m c.mode = some r → attemptLoop (n + 1) u s = (s.startClaim u m r slot c, true)) := by
  rw [attemptLoop]
  rw [h.mode]
  dsimp only
  rw [if_neg (by simp [unitInService, h.inService, h.silent, h.transition])]
  refine ⟨fun ht => by rw [ht], fun slot c ht => ?_⟩
  rw [ht]
  dsimp only
  refine ⟨fun hm => if_pos hm, fun hm => ?_⟩
  rw [if_neg hm]
  exact ⟨fun hr => by rw [hr], fun r hr => by rw [hr]⟩

theorem attemptUnit_starts {m : Mode} {slot : Slot} {c : Claim} {r : Fin 32} (h : s.AtRest u m)
    (ht : s.takenClaim u = some (slot, c)) (hm : c.mode ≠ m) (hr : s.lookupRoute u m c.mode = some r) :
    s.attemptUnit u = (s.startClaim u m r slot c, true) := (((attemptLoop_rest h).2 slot c ht).2 hm).2 r hr

theorem attemptUnit_none {m : Mode} (h : s.AtRest u m) (ht : s.takenClaim u = none) : s.attemptUnit u = (s, false) :=
  (attemptLoop_rest h).1 ht

/-- A claim that asks the unit's mode, or has no route, ends, and the attempt begins again (R54, R55). -/
theorem attemptUnit_ends {m : Mode} {slot : Slot} {c : Claim} (h : s.AtRest u m) (ht : s.takenClaim u = some (slot, c)) :
    (c.mode = m → s.attemptUnit u = (((s.completeAtOnce u slot c).attemptUnit u).1, true)) ∧
      (c.mode ≠ m → s.lookupRoute u m c.mode = none →
        s.attemptUnit u = (((s.failNoRoute u slot c).attemptUnit u).1, true)) := by
  have hrounds := attemptUnit_rounds (s := s) (u := u) (n := s.claimsLeft u + 1) (Nat.lt_succ_self _)
  obtain ⟨hdone, hother⟩ := (attemptLoop_rest (n := s.claimsLeft u) h).2 slot c ht
  rw [hrounds]
  refine ⟨fun hm => ?_, fun hm hr => ?_⟩
  · have hleft := claimsLeft_completeAtOnce ht
    rw [hdone hm, attemptUnit_rounds (n := s.claimsLeft u) (by omega)]
  · have hleft := claimsLeft_failNoRoute ht
    rw [(hother hm).1 hr, attemptUnit_rounds (n := s.claimsLeft u) (by omega)]

/-- What a start attempt for a unit at rest does with the claim it takes (R53 to R55, R57). -/
theorem startAttempt_takes {m : Mode} {slot : Slot} {c : Claim} (h : s.AtRest u m)
    (ht : s.takenClaim u = some (slot, c)) :
    (c.mode = m → s.startAttempt u = (s.completeAtOnce u slot c).startAttempt u) ∧
      (c.mode ≠ m →
        (s.lookupRoute u m c.mode = none → s.startAttempt u = (s.failNoRoute u slot c).startAttempt u) ∧
        ∀ r, s.lookupRoute u m c.mode = some r → s.startAttempt u = (s.startClaim u m r slot c).poolPass) := by
  obtain ⟨hdone, hfails⟩ := attemptUnit_ends h ht
  unfold startAttempt
  exact ⟨fun hm => by rw [hdone hm], fun hm => ⟨fun hr => by rw [hfails hm hr],
    fun r hr => by rw [attemptUnit_starts h ht hm hr]⟩⟩

theorem startAttempt_of_not_rest (h : ∀ m, ¬ s.AtRest u m) : s.startAttempt u = s.poolPass := by
  rw [startAttempt, attemptUnit_of_not_rest h]

theorem startAttempt_of_none (h : s.takenClaim u = none) : s.startAttempt u = s.poolPass := by
  by_cases hrest : ∃ m, s.AtRest u m
  · obtain ⟨m, hm⟩ := hrest
    rw [startAttempt, attemptUnit_none hm h]
  · exact startAttempt_of_not_rest fun m hm => hrest ⟨m, hm⟩

/-! ## The pool pass (R57) -/

theorem poolWalk_unselected {fuel k : Nat} {progress : Bool} (h : ∀ o ∈ s.orders, s.selectUnit o = none) :
    poolWalk fuel k progress s = (s, progress) := by
  induction fuel generalizing k with
  | zero => rfl
  | succ fuel ih =>
    unfold poolWalk
    split
    · rfl
    · next o ho =>
      rw [h o (List.mem_of_getElem? ho)]
      exact ih

/-- Where selection chooses no unit a pool pass changes nothing. -/
theorem poolPass_unselected (h : ∀ o ∈ s.orders, s.selectUnit o = none) : s.poolPass = s := by
  unfold poolPass poolLoop
  rw [poolWalk_unselected h]

theorem selectUnit_unit {o : Order} {v : UnitNo} (h : o.target = .unit v) : s.selectUnit o = none := by
  unfold selectUnit
  rw [h]

theorem poolPass_of_units (h : ∀ o ∈ s.orders, ∃ v, o.target = .unit v) : s.poolPass = s :=
  poolPass_unselected fun o ho => by
    obtain ⟨v, hv⟩ := h o ho
    exact selectUnit_unit hv

/-- The walk starts the oldest order on its unit, and goes on with the order that comes to its position. -/
theorem poolWalk_starts {fuel : Nat} {progress : Bool} {o : Order} {t : State} (ho : s.orders[0]? = some o)
    (hsel : s.selectUnit o = some u) (hatt : s.attemptUnit u = (t, true)) :
    poolWalk (fuel + 1) 0 progress s = poolWalk fuel 0 true t := by
  rw [poolWalk]
  rw [ho]
  dsimp only
  rw [hsel]
  dsimp only
  rw [hatt]

theorem poolLoop_unselected {n : Nat} (h : ∀ o ∈ s.orders, s.selectUnit o = none) : poolLoop n s = s := by
  cases n with
  | zero => rfl
  | succ n =>
    unfold poolLoop
    rw [poolWalk_unselected h]

theorem poolLoop_progress {n : Nat} {t : State} (h : poolWalk s.orders.length 0 false s = (t, true)) :
    poolLoop (n + 1) s = poolLoop n t := by
  rw [poolLoop]
  rw [h]

/-- The unit that selection chooses is at rest, in a mode with a route to the one asked. -/
theorem atRest_of_selected {o : Order} (h : s.selectUnit o = some u) :
    ∃ m r, s.AtRest u m ∧ m ≠ o.mode ∧ s.lookupRoute u m o.mode = some r ∧ (s.unit u).reserveClaim = none ∧
      ∀ q ∈ s.orders, q.target ≠ .unit u := by
  cases ht : o.target with
  | unit v => exact absurd ((selectUnit_unit ht).symm.trans h) nofun
  | pool p =>
    obtain ⟨_, hin, hsilent, htr, hclaim, hothers, m, hm, hne, hroute⟩ :=
      mem_eligible_units.mp ((selectUnit_eq_some_iff ht).mp h).1
    obtain ⟨r, hr⟩ := Option.ne_none_iff_exists'.mp hroute
    exact ⟨m, r, ⟨hin, hm, hsilent, htr⟩, hne, hr, hclaim, hothers⟩

/-- The oldest order, of the highest rank, starts on the unit that selection chooses. -/
theorem attemptUnit_selected {o : Order} {rest : List Order} (ho : s.orders = o :: rest)
    (hrank : ∀ q ∈ rest, rank q.origin ≤ rank o.origin) (hsel : s.selectUnit o = some u) :
    ∃ m r, (s.unit u).mode = .settled m ∧ s.lookupRoute u m o.mode = some r ∧
      s.attemptUnit u = (s.startClaim u m r (.queue 0) o.claim, true) := by
  obtain ⟨m, r, hrest, hne, hr, hclaim, _⟩ := atRest_of_selected hsel
  have htaken : s.takenClaim u = some (.queue 0, o.claim) := by
    refine takenClaim_queue hclaim (by rw [ho]; rfl) (isCandidate_iff.mpr (.inr hsel)) fun j q hj _ => ?_
    rw [ho] at hj
    cases j with
    | zero =>
      obtain rfl : o = q := Option.some.inj hj
      exact .inr ⟨rfl, le_rfl⟩
    | succ j =>
      have := hrank q (List.mem_of_getElem? hj)
      omega
  exact ⟨m, r, hrest.mode, hr, attemptUnit_starts hrest htaken (Ne.symm hne) hr⟩

theorem orders_startClaim {m : Mode} {r : Fin 32} {slot : Slot} {c : Claim} :
    (s.startClaim u m r slot c).orders = (s.removeClaim u slot).orders := by
  unfold startClaim
  extract_lets s1 s2 s3
  have h3 : Calm s2 (s3.phaseStart u 1) := (calm_originate _).trans (calm_phaseStart 1)
  exact h3.orders

/-- A pool pass over one order that starts leaves nothing to do. -/
theorem poolPass_starts {o : Order} {t : State} (ho : s.orders = [o]) (hsel : s.selectUnit o = some u)
    (hatt : s.attemptUnit u = (t, true)) (ht : t.orders = []) : s.poolPass = t := by
  have hwalk : poolWalk s.orders.length 0 false s = (t, true) := by
    rw [ho]
    exact poolWalk_starts (by rw [ho]; rfl) hsel hatt
  rw [poolPass, poolLoop_progress hwalk]
  exact poolLoop_unselected fun q hq => by rw [ht] at hq; exact absurd hq List.not_mem_nil

theorem startClaim_def {m : Mode} {r : Fin 32} {slot : Slot} {c : Claim} : s.startClaim u m r slot c =
    (((s.removeClaim u slot).updUnit u fun x =>
      { x with transition := some (newTransition u m r c (s.removeClaim u slot).now) }).sendClaimStatus u c .started
        .none).phaseStart u 1 := rfl

/-- The claim leaves, STARTED is sent, the record is made, and its first phase starts (R55). -/
theorem startClaim_eq {m : Mode} {r : Fin 32} {slot : Slot} {c : Claim} : s.startClaim u m r slot c =
    (((s.removeClaim u slot).sendClaimStatus u c .started .none).updUnit u fun x =>
      { x with transition := some (newTransition u m r c (s.removeClaim u slot).now) }).phaseStart u 1 := by
  unfold startClaim
  exact congrArg (phaseStart u 1) (originate_updUnit ..)

/-! ## The phase start (R67) -/

theorem hasConverter_iff {r : Resources} : r.hasConverter = true ↔ r = .converter ∨ r = .both := by
  cases r <;> simp [Resources.hasConverter]

theorem hasWaterway_iff {r : Resources} : r.hasWaterway = true ↔ r = .waterway ∨ r = .both := by
  cases r <;> simp [Resources.hasWaterway]

variable {x : Transition}

theorem updTransition_eq (ht : (s.unit u).transition = some x) (f : Transition → Transition) :
    s.updTransition u f = s.updUnit u fun r => { r with transition := some (f x) } := by
  refine updUnit_congr ?_
  rw [ht]
  rfl

/-- Unit u's transition x in phase k, WAITING under the wait limit of its source. -/
def phaseWaiting (u : UnitNo) (k : Nat) (x : Transition) (s : State) : State :=
  s.updUnit u fun r =>
    { r with
      transition := some
        { x with
          phaseNo := k, retriesUsed := 0, phaseState := .waiting
          deadline := s.now + 1000 * (s.waitLimit x.source).toNat } }

/-- Unit u's transition x in phase k, RUNNING with its command sent. -/
def phaseRunning (u : UnitNo) (k : Nat) (x : Transition) (s : State) : State :=
  (s.sendUnitCommand u (s.phaseAt x.route k).command (if (s.phaseAt x.route k).sendSetpoint then x.setpoint else 0)
    (converterByte x.heldConverter) (natByte x.route.val) (natByte k)).updUnit u fun r =>
      { r with
        lastSetpoint := if (s.phaseAt x.route k).sendSetpoint then x.setpoint else r.lastSetpoint
        transition := some
          { x with
            phaseNo := k, retriesUsed := 0, phaseState := .running
            deadline := s.now + 100 * (s.phaseAt x.route k).timeLimit.toNat } }

theorem phaseStart_eq {k : Nat} (ht : (s.unit u).transition = some x) :
    (((s.phaseAt x.route k).claim = .converter ∨ (s.phaseAt x.route k).claim = .both) ∧ x.heldConverter = none →
      s.phaseStart u k = (s.phaseWaiting u k x).requestConverter u) ∧
    (¬ (((s.phaseAt x.route k).claim = .converter ∨ (s.phaseAt x.route k).claim = .both) ∧ x.heldConverter = none) →
      (((s.phaseAt x.route k).claim = .waterway ∨ (s.phaseAt x.route k).claim = .both) ∧ x.heldWaterway = none →
        s.phaseStart u k = (s.phaseWaiting u k x).requestWindow u) ∧
      (¬ (((s.phaseAt x.route k).claim = .waterway ∨ (s.phaseAt x.route k).claim = .both) ∧ x.heldWaterway = none) →
        s.phaseStart u k = s.phaseRunning u k x)) := by
  rw [← hasConverter_iff, ← hasWaterway_iff, ← Option.isNone_iff_eq_none, ← Option.isNone_iff_eq_none,
    ← Bool.and_eq_true, ← Bool.and_eq_true]
  have htr := transition_updTransition (fun t => { t with phaseNo := k, retriesUsed := 0 }) ht
  have hwaiting : ((s.updTransition u fun t => { t with phaseNo := k, retriesUsed := 0 }).updTransition u fun t =>
      { t with phaseState := .waiting, deadline := s.now + 1000 * (s.waitLimit t.source).toNat }) =
        s.phaseWaiting u k x := by
    rw [updTransition_eq htr, updTransition_eq ht, updUnit_updUnit]
    rfl
  have hrunning : (s.updTransition u fun t => { t with phaseNo := k, retriesUsed := 0 }).becomeRunning u =
      s.phaseRunning u k x := by
    rw [becomeRunning_eq htr, updTransition_eq ht, sendUnitCommand_updUnit, updUnit_updUnit]
    rfl
  unfold phaseStart
  rw [ht]
  dsimp only
  refine ⟨fun hc => ?_, fun hc => ⟨fun hw => ?_, fun hw => ?_⟩⟩
  · rw [hc, if_neg (by simp), if_pos rfl]
    exact congrArg (requestConverter u) hwaiting
  · rw [Bool.eq_false_iff.mpr hc, hw, if_neg (by simp), if_neg (by simp)]
    exact congrArg (requestWindow u) hwaiting
  · rw [Bool.eq_false_iff.mpr hc, Bool.eq_false_iff.mpr hw, if_pos (by simp)]
    exact hrunning

/-- The phase that starts does not depend on what the record held of the phase before. -/
theorem phaseStart_replaced {k : Nat} (y : Transition) (n : Nat) (d : Time) (ps : PhaseState) (f : Nat)
    (hy : y = { x with phaseNo := n, deadline := d, phaseState := ps, retriesUsed := f }) :
    (s.updUnit u fun r => { r with transition := some y }).phaseStart u k =
      (s.updUnit u fun r => { r with transition := some x }).phaseStart u k := by
  have hx : ((s.updUnit u fun r => { r with transition := some x }).unit u).transition = some x := by
    rw [unit_updUnit_self]
  have hy' : ((s.updUnit u fun r => { r with transition := some y }).unit u).transition = some y := by
    rw [unit_updUnit_self]
  obtain ⟨hc, hrest⟩ := phaseStart_eq (k := k) hx
  obtain ⟨hc', hrest'⟩ := phaseStart_eq (k := k) hy'
  have hwaiting : (s.updUnit u fun r => { r with transition := some y }).phaseWaiting u k y =
      (s.updUnit u fun r => { r with transition := some x }).phaseWaiting u k x := by
    unfold phaseWaiting
    rw [updUnit_updUnit, updUnit_updUnit, hy]
    rfl
  have hrunning : (s.updUnit u fun r => { r with transition := some y }).phaseRunning u k y =
      (s.updUnit u fun r => { r with transition := some x }).phaseRunning u k x := by
    unfold phaseRunning
    rw [sendUnitCommand_updUnit, sendUnitCommand_updUnit, updUnit_updUnit, updUnit_updUnit, hy]
    rfl
  have hroute : y.route = x.route ∧ y.heldConverter = x.heldConverter ∧ y.heldWaterway = x.heldWaterway := by
    rw [hy]
    exact ⟨rfl, rfl, rfl⟩
  rw [hroute.1, hroute.2.1] at hc' hrest'
  rw [hroute.2.2] at hrest'
  by_cases hasks : ((s.phaseAt x.route k).claim = .converter ∨ (s.phaseAt x.route k).claim = .both) ∧
      x.heldConverter = none
  · exact (hc' hasks).trans ((congrArg (requestConverter u) hwaiting).trans (hc hasks).symm)
  · by_cases hasksw : ((s.phaseAt x.route k).claim = .waterway ∨ (s.phaseAt x.route k).claim = .both) ∧
        x.heldWaterway = none
    · exact ((hrest' hasks).1 hasksw).trans ((congrArg (requestWindow u) hwaiting).trans ((hrest hasks).1 hasksw).symm)
    · exact ((hrest' hasks).2 hasksw).trans (hrunning.trans ((hrest hasks).2 hasksw).symm)

end State

end Sys2Proof.Machine
end

section
/-!
PROOFS. Chapter 3: orders that are accepted, started, ended at once, offered to a transition, and that expire (R46 to R58,
R77 to R80).
-/

namespace Sys2Proof.Machine

theorem modeOf_modeCode (n : Mode) : modeOf (modeCode n) = some n := by cases n <;> rfl

namespace State

/-- The arrival that a dispatch order for target t and mode n makes at time `now` (R47). -/
def orderArrival (tag : Half) (t : Target) (n : Mode) (setpoint validity : Half) (now : Time) : Arrival :=
  { claim := { origin := .dispatch, tag := tag, mode := n, setpoint := setpoint }, target := t
    expiry := if validity = 0 then none else some (now + 1000 * validity.toNat) }

/-- An arrival appended and answered ACCEPTED (R47). -/
def accepted (a : Arrival) (s : State) : State :=
  (s.appendOrder a).sendStatus a.claim.tag .accepted .none (targetUnitByte a.target) (modeCode a.claim.mode) a.claim.origin

variable {s : State} {u : UnitNo} {a : Arrival}

theorem acceptArrival_pool {p : Fin 4} (h : a.target = .pool p) : s.acceptArrival a = (s.accepted a).poolPass := by
  unfold acceptArrival accepted
  rw [h]

theorem acceptArrival_unit (h : a.target = .unit u) : s.acceptArrival a = (s.accepted a).actOn u a.claim := by
  unfold acceptArrival accepted
  rw [h]

theorem actOn_rest {c : Claim} (h : (s.unit u).transition = none) : s.actOn u c = s.startAttempt u := by
  unfold actOn
  rw [h]

theorem actOn_moving {c : Claim} {x : Transition} (h : (s.unit u).transition = some x) : s.actOn u c = s.offer u x c := by
  unfold actOn
  rw [h]

theorem queueOrder_accepts (hw : s.whollyUnavailable a.target ≠ true)
    (hr : s.outranked a.claim.origin a.target = false) (hl : (s.supersedeFor a.target).orders.length < 16) :
    s.queueOrder a = (s.supersedeFor a.target).acceptArrival a := by
  unfold queueOrder
  rw [if_neg hw, if_neg (by simp [hr])]
  exact if_neg (by omega)

theorem queueOrder_order {t : Target} {tag setpoint validity : Half} {n : Mode} {now : Time}
    (hw : s.whollyUnavailable t ≠ true) (hr : s.outranked .dispatch t = false)
    (hl : (s.supersedeFor t).orders.length < 16) :
    s.queueOrder (orderArrival tag t n setpoint validity now) =
      (s.supersedeFor t).acceptArrival (orderArrival tag t n setpoint validity now) := queueOrder_accepts hw hr hl

theorem unit_accepted (v : UnitNo) : (s.accepted a).unit v = s.unit v := unit_originate ..

theorem orders_accepted : (s.accepted a).orders = s.orders ++ [orderRecord a s.ageCount] := originate_orders ..

theorem judgeOrder_target {tag : Half} {o : OrderFields} {t : Target} {n : Mode} (ht : s.orderTarget o = some t)
    (hm : o.mode = modeCode n) :
    s.judgeOrder tag o = s.queueOrder (orderArrival tag t n o.setpoint o.validity s.now) := by
  unfold judgeOrder
  rw [ht]
  dsimp only
  rw [hm, modeOf_modeCode]
  rfl

@[simp] theorem heard_ageCount (p : PortName) (src : Byte) : (s.heard p src).ageCount = s.ageCount := by
  unfold heard
  dsimp only
  split <;> simp

@[simp] theorem heard_duty (p : PortName) (src : Byte) : (s.heard p src).duty = s.duty := by
  unfold heard
  dsimp only
  split <;> simp

end State

section

variable {src : Byte} {ident tag setpoint validity : Half} {n : Mode} {s : State}

/-- In DIRECTED an order for a unit in service reaches check 5. -/
theorem exec_order_unit {u : UnitNo} (hl : s.plantPort.link = true) (hd : s.dispatcher = .directed)
    (hs : setpoint.toNat ≤ 4000) (hin : u.val < s.plan.station.unitCount.toNat) :
    exec (.dispatchOrder src ident tag (orderPayload 0 (unitByte u) (modeCode n) setpoint validity)) s =
      .next ((s.heard .plant src).queueOrder (State.orderArrival tag (.unit u) n setpoint validity s.now)) := by
  have hval : u.val = (unitByte u).toNat := by
    have := u.isLt
    simp only [unitByte, natByte, BitVec.toNat_ofNat]
    omega
  rw [exec_orderPayload_directed hl hd (by decide) hs, State.judgeOrder_target (n := n)
    (State.orderTarget_unit (u := u) rfl hval (by rwa [State.heard_plan])) rfl, State.heard_now]

theorem exec_order_pool {p : Fin 4} (hl : s.plantPort.link = true) (hd : s.dispatcher = .directed)
    (hs : setpoint.toNat ≤ 4000) (hm : s.plan.pools[p.val].members ≠ 0) :
    exec (.dispatchOrder src ident tag (orderPayload 1 (natByte p.val) (modeCode n) setpoint validity)) s =
      .next ((s.heard .plant src).queueOrder (State.orderArrival tag (.pool p) n setpoint validity s.now)) := by
  have hval : p.val = (natByte p.val).toNat := by
    have := p.isLt
    simp only [natByte, BitVec.toNat_ofNat]
    omega
  have htarget := State.orderTarget_pool (s := s.heard .plant src)
    (o := { targetType := 1, target := natByte p.val, mode := modeCode n, setpoint := setpoint, validity := validity })
    rfl hval
  rw [State.heard_plan, if_neg hm] at htarget
  rw [exec_orderPayload_directed hl hd (by decide) hs, State.judgeOrder_target (n := n) htarget rfl, State.heard_now]

end

namespace State

variable {s : State} {u : UnitNo}

/-! ## Fields that a telegram's placing does not see -/

/-- The order queue and the count of ages replaced. -/
def withOrders (l : List Order) (age : Half) (s : State) : State := { s with orders := l, ageCount := age }

theorem withOrders_withOrders (l l' : List Order) (age age' : Half) :
    (s.withOrders l age).withOrders l' age' = s.withOrders l' age' := rfl

theorem originate_withOrders (l : List Order) (age : Half) (p : PortName) (t : Telegram) :
    (s.withOrders l age).originate p t = (s.originate p t).withOrders l age := by
  have hcan : (s.withOrders l age).canOriginate p = s.canOriginate p := by
    cases p <;> rfl
  unfold originate
  rw [hcan]
  split <;> cases p <;> rfl

theorem sendStatus_withOrders (l : List Order) (age : Half) (tag : Half) (st : Status) (r : Reason) (unit mode : Byte)
    (o : Origin) : (s.withOrders l age).sendStatus tag st r unit mode o =
      (s.sendStatus tag st r unit mode o).withOrders l age := originate_withOrders ..

/-- The order that an arrival becomes (R47). -/
theorem accepted_order {t : Target} {tag setpoint validity : Half} {n : Mode} {now : Time} :
    s.accepted (orderArrival tag t n setpoint validity now) =
      (s.sendStatus tag .accepted .none (targetUnitByte t) (modeCode n) .dispatch).withOrders
        (s.orders ++ [{ tag := tag, origin := .dispatch, target := t, mode := n, setpoint := setpoint
                        expiry := if validity = 0 then none else some (now + 1000 * validity.toNat)
                        age := s.ageCount }])
        (s.ageCount + 1) :=
  sendStatus_withOrders (s := s) _ _ _ _ _ _ _ _

theorem selectUnit_congr {t : State} (hp : t.plan = s.plan) (hu : t.units = s.units) (hd : t.duty = s.duty)
    (ho : ∀ v : UnitNo, (t.orders.any fun o => o.isFor v) = s.orders.any fun o => o.isFor v) (o : Order) :
    t.selectUnit o = s.selectUnit o := by
  have hunit : ∀ v, t.unit v = s.unit v := fun v => by simp [unit, hu]
  have hroute : ∀ v m n, t.lookupRoute v m n = s.lookupRoute v m n := fun v m n => by simp only [lookupRoute, hp]
  have heligible : ∀ p n, t.eligible p n = s.eligible p n := fun p n => by
    funext v
    simp only [eligible, hunit, hp, unitInService, ho, hroute]
  have hvalue : ∀ v n, t.counterValue v n = s.counterValue v n := fun v n => by simp [counterValue, dutyOf, hd]
  have hlowest : ∀ n us, t.lowestCounter n us = s.lowestCounter n us := fun n us => by
    induction us with
    | nil => rfl
    | cons v us ih => simp only [lowestCounter, ih, hvalue]
  unfold selectUnit
  split
  · rfl
  · rw [hp, heligible, hlowest]

theorem selectUnit_heard (p : PortName) (src : Byte) (o : Order) : (s.heard p src).selectUnit o = s.selectUnit o :=
  selectUnit_congr (heard_plan ..) (heard_units ..) (heard_duty ..) (fun _ => by rw [heard_orders]) o

/-- A pool order in the queue takes no unit from selection. -/
theorem selectUnit_accepted {p : Fin 4} {tag setpoint validity : Half} {n : Mode} {now : Time} (o : Order) :
    (s.accepted (orderArrival tag (.pool p) n setpoint validity now)).selectUnit o = s.selectUnit o := by
  refine selectUnit_congr (t := s.accepted (orderArrival tag (.pool p) n setpoint validity now))
    (by exact originate_plan ..) (by exact originate_units ..) (by exact originate_duty ..) (fun v => ?_) o
  rw [orders_accepted, List.any_append]
  simp [Order.isFor, orderRecord, orderArrival]

theorem updTransition_none {f : Transition → Transition} (h : (s.unit u).transition = none) : s.updTransition u f = s :=
  updUnit_eq_self (by rw [h]; exact congrArg (fun x => { s.unit u with transition := x }) h.symm)

/-- The only queued order, for unit u, ends SUPERSEDED (R46). -/
theorem supersedeQueued_single {o : Order} (ho : s.orders = [o]) (hto : o.target = .unit u)
    (ht : (s.unit u).transition = none) : s.supersedeQueued u =
      ({ s with orders := [] } : State).sendStatus o.tag .superseded .none (unitByte u) (modeCode o.mode) o.origin := by
  have hfor : o.isFor u = true := decide_eq_true hto
  unfold supersedeQueued
  rw [ho, List.filter_cons_of_pos (by exact hfor), List.filter_cons_of_neg (by simp [hfor]), List.filter_nil,
    List.filter_nil]
  show ((State.clearCut u o.origin o.tag { s with orders := [] }).sendOrderStatus o .superseded .none) = _
  unfold clearCut
  rw [updTransition_none (by exact ht), sendOrderStatus, hto]
  rfl

end State


/-- Settles O25: an order that passes every check is appended, with its status. -/
theorem acceptedOrderWaits : Obligations.AcceptedOrderWaits := by
  refine ⟨?unit, ?pool⟩
  case unit =>
    intro src ident tag u n setpoint validity s hl hd hs hin ht hr hblocked i s0 record
    have hexec : exec i s = .next (s0.queueOrder (State.orderArrival tag (.unit u) n setpoint validity s.now)) :=
      exec_order_unit hl hd hs hin
    have hu0 : s0.unit u = s.unit u := State.unit_heard ..
    have hw : s0.whollyUnavailable (.unit u) ≠ true := by
      refine State.not_whollyUnavailable_unit ?_ ?_ <;> rw [hu0] <;> rcases hblocked with h | ⟨_, m, h⟩ <;> rw [h] <;>
        exact nofun
    have hrest : ∀ t : State, t.unit u = s.unit u → ∀ m, ¬ t.AtRest u m := by
      intro t htu m hm
      have hmode := hm.mode
      have hsilent := hm.silent
      rw [htu] at hmode hsilent
      rcases hblocked with h | ⟨h, _⟩
      · exact absurd (h.symm.trans hmode) nofun
      · exact Bool.false_ne_true (hsilent.symm.trans h)
    have hwaits : ∀ t : State, t.unit u = s.unit u → (∀ o ∈ t.orders, ∃ v, o.target = .unit v) → t.startAttempt u = t :=
      fun t htu ho => (State.startAttempt_of_not_rest (hrest t htu)).trans (State.poolPass_of_units ho)
    refine ⟨fun hothers hlen => ?_, fun o horders hto horigin => ?_⟩
    · have hnone : ∀ q ∈ s0.orders, q.target ≠ .unit u := by
        rw [State.heard_orders]
        intro q hq hqt
        obtain ⟨v, hv, hqv⟩ := hothers q hq
        exact hv (Target.unit.inj (hqv.symm.trans hqt))
      have hsup : s0.supersedeFor (.unit u) = s0 := State.supersedeQueued_of_none hnone
      have haccepts := State.queueOrder_order (s := s0) (tag := tag) (n := n) (setpoint := setpoint)
        (validity := validity) (now := s.now) hw (State.outranked_eq_false (by rw [hu0, hr]) hnone)
        (by rw [hsup, State.heard_orders]; exact hlen)
      rw [hsup, State.acceptArrival_unit rfl, State.actOn_rest (by rw [State.unit_accepted, hu0, ht]),
        hwaits _ (by rw [State.unit_accepted, hu0])] at haccepts
      · rw [hexec, haccepts]
        refine congrArg Host.Outcome.next ?_
        rw [State.accepted_order, State.heard_orders, State.heard_ageCount]
        exact (State.sendStatus_withOrders (s := s0) ..).symm
      · rw [State.orders_accepted, State.heard_orders]
        intro q hq
        rcases List.mem_append.mp hq with hq | hq
        · obtain ⟨v, _, hv⟩ := hothers q hq
          exact ⟨v, hv⟩
        · exact ⟨u, by rw [List.mem_singleton.mp hq]; rfl⟩
    · have hsup : s0.supersedeFor (.unit u) = ({ s0 with orders := [] } : State).sendStatus o.tag .superseded .none
          (unitByte u) (modeCode o.mode) o.origin :=
        State.supersedeQueued_single ((State.heard_orders ..).trans horders) hto (by rw [hu0, ht])
      have houtranked : s0.outranked .dispatch (.unit u) = false := by
        have hrank : ¬ rank .dispatch < rank o.origin := by
          cases ho : o.origin with
          | reserve => exact absurd ho horigin
          | dispatch => decide
          | schedule => decide
        simp [State.outranked, hu0, hr, horders, hrank, s0]
      set s1 := ({ s0 with orders := [] } : State).sendStatus o.tag .superseded .none (unitByte u) (modeCode o.mode)
        o.origin with hs1
      have horders1 : s1.orders = [] := State.originate_orders ..
      have hu1 : s1.unit u = s.unit u := (State.unit_originate ..).trans hu0
      have haccepts := State.queueOrder_order (s := s0) (tag := tag) (n := n) (setpoint := setpoint)
        (validity := validity) (now := s.now) hw houtranked (by rw [hsup, horders1]; decide)
      rw [hsup, State.acceptArrival_unit rfl, State.actOn_rest (by rw [State.unit_accepted, hu1, ht]),
        hwaits _ (by rw [State.unit_accepted, hu1])] at haccepts
      · rw [hexec, haccepts]
        refine congrArg Host.Outcome.next ?_
        have hage : s1.ageCount = s.ageCount := (State.originate_ageCount ..).trans (State.heard_ageCount ..)
        have hs1' : s1 = (s0.sendStatus o.tag .superseded .none (unitByte u) (modeCode o.mode) o.origin).withOrders []
            s0.ageCount := State.sendStatus_withOrders (s := s0) [] s0.ageCount ..
        have hresult : ((s0.withOrders [record] (s.ageCount + 1)).sendStatus o.tag .superseded .none (unitByte u)
            (modeCode o.mode) o.origin).sendStatus tag .accepted .none (unitByte u) (modeCode n) .dispatch =
              ((s0.sendStatus o.tag .superseded .none (unitByte u) (modeCode o.mode) o.origin).sendStatus tag .accepted
                .none (unitByte u) (modeCode n) .dispatch).withOrders [record] (s.ageCount + 1) := by
          rw [State.sendStatus_withOrders, State.sendStatus_withOrders]
        rw [State.accepted_order, horders1, hage, hs1', State.sendStatus_withOrders, State.withOrders_withOrders]
        exact hresult.symm
      · rw [State.orders_accepted, horders1]
        intro q hq
        exact ⟨u, by rw [List.mem_singleton.mp hq]; rfl⟩
  case pool =>
    intro src ident tag p n setpoint validity s hl hd hs ho hmember record hnone
    obtain ⟨u, hu, hout, htripped⟩ := hmember
    have hm : s.plan.pools[p.val].members ≠ 0 := fun h => by simp [h] at hu
    have hw : (s.heard .plant src).whollyUnavailable (.pool p) ≠ true := by
      rw [State.whollyUnavailable_heard]
      exact State.not_whollyUnavailable_pool hu hout htripped
    have haccepts := State.queueOrder_order (s := s.heard .plant src) (t := .pool p) (tag := tag) (n := n)
      (setpoint := setpoint) (validity := validity) (now := s.now) hw rfl (by
        show (s.heard .plant src).orders.length < 16
        rw [State.heard_orders, ho]
        decide)
    have hpass : ((s.heard .plant src).accepted (State.orderArrival tag (.pool p) n setpoint validity s.now)).poolPass =
        (s.heard .plant src).accepted (State.orderArrival tag (.pool p) n setpoint validity s.now) := by
      refine State.poolPass_unselected fun q hq => ?_
      rw [State.orders_accepted, State.heard_orders, ho, List.nil_append, State.heard_ageCount] at hq
      rw [List.mem_singleton.mp hq, State.selectUnit_accepted, State.selectUnit_heard]
      exact hnone
    rw [exec_order_pool hl hd hs hm, haccepts]
    refine congrArg Host.Outcome.next ((State.acceptArrival_pool rfl).trans (hpass.trans ?_))
    rw [State.accepted_order, State.heard_orders, State.heard_ageCount, ho]
    exact (State.sendStatus_withOrders (s := s.heard .plant src) ..).symm

/-! ## Orders that start (R53 to R57, R67) -/

namespace State

variable {s : State} {u : UnitNo} {t : Target} {tag setpoint validity : Half} {n : Mode} {now : Time}

theorem phaseAt_one (r : Fin 32) : s.phaseAt r 1 = s.plan.phases[s.plan.routes[r.val].firstPhase.val] := by
  unfold phaseAt
  rw [Nat.add_sub_cancel, Vector.getElem?_eq_getElem]
  rfl

theorem phaseAt_congr {t : State} (h : t.plan = s.plan) (r : Fin 32) (k : Nat) : t.phaseAt r k = s.phaseAt r k := by
  simp only [phaseAt, h]

/-- The accepted order that leaves an empty queue: its status and its AGE stay. -/
theorem removeClaim_accepted (ho : s.orders = []) :
    (s.accepted (orderArrival tag t n setpoint validity now)).removeClaim u (.queue 0) =
      ({ s with ageCount := s.ageCount + 1 } : State).sendStatus tag .accepted .none (targetUnitByte t) (modeCode n)
        .dispatch := by
  have hage : ({ s with ageCount := s.ageCount + 1 } : State) = s.withOrders [] (s.ageCount + 1) := by
    show s.withOrders s.orders (s.ageCount + 1) = _
    rw [ho]
  rw [hage, accepted_order, sendStatus_withOrders, ho]
  rfl

theorem atRest_accepted {a : Arrival} {m : Mode} (h : s.AtRest u m) : (s.accepted a).AtRest u m := by
  have hplan : (s.accepted a).plan = s.plan := originate_plan ..
  obtain ⟨hin, hm, hsilent, ht⟩ := h
  exact ⟨by rwa [hplan], by rwa [unit_accepted], by rwa [unit_accepted], by rwa [unit_accepted]⟩

/-- The order accepted into an empty queue is the one that a start attempt takes. -/
theorem takenClaim_accepted (ho : s.orders = []) (hr : (s.unit u).reserveClaim = none)
    (hcand : t = .unit u ∨ ∀ age expiry, (s.accepted (orderArrival tag t n setpoint validity now)).selectUnit
      { tag := tag, origin := .dispatch, target := t, mode := n, setpoint := setpoint, expiry := expiry, age := age } =
        some u) :
    (s.accepted (orderArrival tag t n setpoint validity now)).takenClaim u =
      some (.queue 0, { origin := .dispatch, tag := tag, mode := n, setpoint := setpoint }) := by
  have horders : (s.accepted (orderArrival tag t n setpoint validity now)).orders =
      [orderRecord (orderArrival tag t n setpoint validity now) s.ageCount] := by
    rw [orders_accepted, ho, List.nil_append]
  refine takenClaim_queue (o := orderRecord (orderArrival tag t n setpoint validity now) s.ageCount)
    (by rw [unit_accepted, hr]) (by rw [horders]; rfl) (isCandidate_iff.mpr ?_) fun j q hj _ => ?_
  · exact hcand.imp (fun h => h) fun h => h _ _
  · rw [horders] at hj
    cases j with
    | zero =>
      obtain rfl : _ = q := Option.some.inj hj
      exact .inr ⟨rfl, le_rfl⟩
    | succ j => exact absurd hj nofun

theorem lookupRoute_congr {t : State} (h : t.plan = s.plan) (u : UnitNo) (m n : Mode) :
    t.lookupRoute u m n = s.lookupRoute u m n := by
  simp only [lookupRoute, h]

/-- The order accepted into an empty queue starts its transition. -/
theorem attemptUnit_accepted {m : Mode} {r : Fin 32} (ho : s.orders = []) (hrest : s.AtRest u m)
    (hr : (s.unit u).reserveClaim = none) (hne : m ≠ n) (hroute : s.lookupRoute u m n = some r)
    (hcand : t = .unit u ∨ ∀ age expiry, (s.accepted (orderArrival tag t n setpoint validity now)).selectUnit
      { tag := tag, origin := .dispatch, target := t, mode := n, setpoint := setpoint, expiry := expiry, age := age } =
        some u) :
    (s.accepted (orderArrival tag t n setpoint validity now)).attemptUnit u =
      ((s.accepted (orderArrival tag t n setpoint validity now)).startClaim u m r (.queue 0)
        { origin := .dispatch, tag := tag, mode := n, setpoint := setpoint }, true) :=
  attemptUnit_starts (atRest_accepted hrest) (takenClaim_accepted ho hr hcand) (Ne.symm hne)
    ((lookupRoute_congr (originate_plan ..) ..).trans hroute)

/-- The setpoint command does not see the queue. -/
theorem settleSetpoint_withOrders (l : List Order) (age : Half) (m : Mode) (sp : Half) :
    (s.withOrders l age).settleSetpoint u m sp = (s.settleSetpoint u m sp).withOrders l age := by
  rw [settleSetpoint_eq, settleSetpoint_eq]
  show (if (m = .gen ∨ m = .pmp) ∧ (s.unit u).lastSetpoint ≠ sp then _ else _) = _
  split
  · rw [sendUnitCommand, originate_withOrders]
    rfl
  · rfl

end State

/-- Settles O26: an order for a unit at rest with a route starts its transition at once. -/
theorem acceptedOrderStartsItsTransition : Obligations.AcceptedOrderStartsItsTransition := by
  refine ⟨?order, ?phase, ?single, ?attempt, ?pass⟩
  case phase =>
    intro u k x s ht p asksConverter asksWindow limit converter waiting
    have hwaiting : s.phaseWaiting u k x = waiting := by
      unfold State.phaseWaiting
      cases hx : x.source <;> simp only [waiting, limit, State.waitLimit, hx]
    have hconverter : State.converterByte x.heldConverter = converter := by
      simp only [converter]
      cases x.heldConverter <;> rfl
    obtain ⟨hc, hrest⟩ := State.phaseStart_eq (k := k) ht
    rw [hwaiting] at hc
    refine ⟨hc, fun hno hw => ?_, fun hno hno' => ?_⟩
    · rw [← hwaiting]
      exact (hrest hno).1 hw
    · rw [← hconverter]
      exact (hrest hno).2 hno'
  case single =>
    intro o u m r s ho hto hin hm hsilent ht hr hne hroute deadline record
    have hrest : s.AtRest u m := ⟨hin, hm, hsilent, ht⟩
    have htaken : s.takenClaim u = some (.queue 0, o.claim) := by
      refine State.takenClaim_queue hr (by rw [ho]; rfl) (State.isCandidate_iff.mpr (.inl hto)) fun j q hj _ => ?_
      rw [ho] at hj
      cases j with
      | zero =>
        obtain rfl : o = q := Option.some.inj hj
        exact .inr ⟨rfl, le_rfl⟩
      | succ j => exact absurd hj nofun
    rw [((State.startAttempt_takes hrest htaken).2 (Ne.symm hne)).2 r hroute]
    have hleft : s.removeClaim u (.queue 0) = { s with orders := [] } := by
      unfold State.removeClaim
      rw [ho]
      rfl
    rw [State.poolPass_of_nil (by rw [State.orders_startClaim, hleft]), State.startClaim_eq, hleft,
      State.sendStatus, State.originate_updUnit]
    exact (State.phaseStart_replaced _ 1 s.now .waiting 0 rfl)
  case attempt =>
    intro u s record status atRest candidate takes
    have htakes : ∀ (slot : Slot) (c : Claim) (leave : State → State), s.takenClaim u = some (slot, c) →
        (∀ t, t.removeClaim u slot = leave t) → (∀ t, (leave t).now = t.now) → takes c leave := by
      intro slot c leave htaken hleave hnow m hrest
      obtain ⟨hin, hm, hsilent, ht⟩ := hrest
      obtain ⟨hdone, hother⟩ := State.startAttempt_takes ⟨hin, hm, hsilent, ht⟩ htaken
      refine ⟨fun hmode => ?_, fun hmode => ⟨fun hr => ?_, fun r hr => ?_⟩⟩
      · intro commanded
        have hcommanded : s.settleSetpoint u c.mode c.setpoint = commanded := by
          rw [State.settleSetpoint_eq, hmode]
        rw [hdone hmode, State.completeAtOnce, hcommanded, hleave]
        rfl
      · rw [(hother hmode).1 hr, State.failNoRoute, hleave]
        rfl
      · rw [(hother hmode).2 r hr]
        rw [State.startClaim_def, hleave, hnow]
        rfl
    refine ⟨fun c hc => ?_, fun k o hk hr hcand hbest => ?_, fun h => ?_⟩
    · exact htakes .reserve c.claim _ (State.takenClaim_reserve hc) (fun _ => rfl) fun _ => rfl
    · have htaken := State.takenClaim_queue hr hk (State.isCandidate_iff.mpr hcand)
        fun j q hj hq => hbest j q hj (State.isCandidate_iff.mp hq)
      exact htakes (.queue k) o.claim (fun t => { t with orders := t.orders.eraseIdx k }) htaken (fun _ => rfl)
        fun _ => rfl
    · rcases h with h | ⟨hr, h⟩
      · exact State.startAttempt_of_not_rest fun m hm => h m ⟨hm.inService, hm.mode, hm.silent, hm.transition⟩
      · exact State.startAttempt_of_none (State.takenClaim_eq_none hr fun o ho hc => h o ho (State.isCandidate_iff.mp hc))
  case pass =>
    intro s
    refine ⟨State.poolPass_unselected, ?_⟩
    intro o q k j u ho hto htq horigin hsel started first
    have hstarts : ∀ (o : Order) (v : UnitNo) (t : State) (rest : List Order), t.orders = o :: rest →
        (∀ q ∈ rest, rank q.origin ≤ rank o.origin) → t.selectUnit o = some v →
        t.attemptUnit v = (started o v t, true) ∧ (started o v t).orders = rest := by
      intro o v t rest ho hrank hsel
      obtain ⟨m, r, hm, hr, hatt⟩ := State.attemptUnit_selected ho hrank hsel
      have hleft : t.removeClaim v (.queue 0) = { t with orders := t.orders.tail } := by
        unfold State.removeClaim
        rw [ho]
        rfl
      have hstarted : t.startClaim v m r (.queue 0) o.claim = started o v t := by
        simp only [started, hm, hr, State.startClaim, hleft]
        rfl
      rw [← hstarted]
      refine ⟨hatt, ?_⟩
      rw [State.orders_startClaim, hleft]
      exact congrArg List.tail ho
    obtain ⟨hatt, hq⟩ := hstarts o u s [q] ho (fun x hx => by rw [List.mem_singleton.mp hx, horigin]) hsel
    have hwalk : State.poolWalk s.orders.length 0 false s = State.poolWalk 1 0 true first := by
      rw [ho]
      exact State.poolWalk_starts (by rw [ho]; rfl) hsel hatt
    have hpass : ∀ t : State, State.poolWalk 1 0 true first = (t, true) → (∀ x ∈ t.orders, t.selectUnit x = none) →
        s.poolPass = t := by
      intro t ht hnone
      rw [State.poolPass, State.poolLoop_progress (hwalk.trans ht)]
      exact State.poolLoop_unselected hnone
    split
    · next v hv =>
      obtain ⟨hatt', hempty⟩ := hstarts q v first [] hq nofun hv
      refine hpass _ (State.poolWalk_starts (by rw [hq]; rfl) hv hatt') fun x hx => ?_
      rw [hempty] at hx
      exact absurd hx List.not_mem_nil
    · next hv =>
      have hnone : ∀ x ∈ first.orders, first.selectUnit x = none := fun x hx => by
        rw [hq] at hx
        rw [List.mem_singleton.mp hx]
        exact hv
      exact hpass _ (State.poolWalk_unselected hnone) hnone
  case order =>
    intro src ident tag u m n r setpoint validity s hl hd hs ho hin hm hsilent ht hr hne hroute p answered record running
      waiting started
    set s0 := s.heard .plant src with hs0
    have ho0 : s0.orders = [] := (State.heard_orders ..).trans ho
    have hu0 : s0.unit u = s.unit u := State.unit_heard ..
    have hplan0 : s0.plan = s.plan := State.heard_plan ..
    have hroute0 : s0.lookupRoute u m n = some r := (State.lookupRoute_congr hplan0 ..).trans hroute
    have hrest0 : s0.AtRest u m := ⟨by rwa [hplan0], by rwa [hu0], by rwa [hu0], by rwa [hu0]⟩
    have hstart : ∀ t : Target,
        (s0.accepted (State.orderArrival tag t n setpoint validity s.now)).startClaim u m r (.queue 0)
          { origin := .dispatch, tag := tag, mode := n, setpoint := setpoint } = started (targetUnitByte t) := by
      intro t
      set shown := targetUnitByte t with hshown
      have hage : s0.ageCount = s.ageCount := State.heard_ageCount ..
      rw [State.startClaim_eq, State.removeClaim_accepted ho0, hage]
      have hplan : (answered shown).plan = s.plan :=
        (State.originate_plan ..).trans ((State.originate_plan ..).trans hplan0)
      have hnow : (answered shown).now = s.now :=
        (State.originate_now ..).trans ((State.originate_now ..).trans (State.heard_now ..))
      suffices hphases : ∀ d, ((answered shown).updUnit u fun x =>
          { x with transition := some (record .waiting d) }).phaseStart u 1 = started shown from hphases _
      intro d
      set y := record .waiting d with hy
      set x := (answered shown).updUnit u fun x => { x with transition := some y } with hx
      have hxt : (x.unit u).transition = some y := by rw [hx, State.unit_updUnit_self]
      have hphase : x.phaseAt y.route 1 = p := by
        rw [State.phaseAt_congr (show x.plan = s.plan from hplan), State.phaseAt_one]
      have hwaiting : x.phaseWaiting u 1 y = waiting shown := by
        unfold State.phaseWaiting
        rw [hx, State.updUnit_updUnit]
        refine State.updUnit_congr ?_
        rw [show (State.updUnit u (fun x => { x with transition := some y }) (answered shown)).now = s.now from hnow,
          show (State.updUnit u (fun x => { x with transition := some y }) (answered shown)).waitLimit y.source =
            s.plan.station.waitLimitDispatch from congrArg (fun q => q.station.waitLimitDispatch) hplan]
      have hrunning : x.phaseRunning u 1 y = running shown := by
        unfold State.phaseRunning
        rw [hphase, hx, State.sendUnitCommand_updUnit, State.updUnit_updUnit]
        rw [show (State.updUnit u (fun x => { x with transition := some y }) (answered shown)).now = s.now from hnow]
        rfl
      obtain ⟨hc, hrest⟩ := State.phaseStart_eq (k := 1) hxt
      rw [hphase, hwaiting] at hc hrest
      rw [hrunning] at hrest
      simp only [started]
      split
      · next h => exact (hrest (by simp [h])).2 (by simp [h])
      · next h => exact hc ⟨.inl h, rfl⟩
      · next h => exact (hrest (by simp [h])).1 ⟨.inl h, rfl⟩
      · next h => exact hc ⟨.inr h, rfl⟩
    have hempty : ∀ t c, ((s0.accepted (State.orderArrival tag t n setpoint validity s.now)).startClaim u m r (.queue 0)
        c).orders = [] := fun t c => by
      rw [State.orders_startClaim, State.removeClaim_accepted ho0]
      exact (State.originate_orders ..).trans ho0
    refine ⟨?_, fun k hsel => ?_⟩
    · have hnone : ∀ q ∈ s0.orders, q.target ≠ .unit u := by rw [ho0]; exact nofun
      have hsup : s0.supersedeFor (.unit u) = s0 := State.supersedeQueued_of_none hnone
      have haccepts := State.queueOrder_order (s := s0) (tag := tag) (n := n) (setpoint := setpoint)
        (validity := validity) (now := s.now)
        (State.not_whollyUnavailable_unit (by rw [hu0, hm]; exact nofun) (by rw [hu0, hm]; exact nofun))
        (State.outranked_eq_false (by rw [hu0, hr]) hnone) (by rw [hsup, ho0]; decide)
      rw [hsup, State.acceptArrival_unit rfl, State.actOn_rest (by rw [State.unit_accepted, hu0, ht])] at haccepts
      rw [exec_order_unit hl hd hs hin, haccepts, State.startAttempt,
        State.attemptUnit_accepted ho0 hrest0 (by rw [hu0, hr]) hne hroute0 (.inl rfl),
        State.poolPass_of_nil (hempty _ _), hstart]
      rfl
    · have hsel0 : ∀ age expiry, (s0.accepted (State.orderArrival tag (.pool k) n setpoint validity s.now)).selectUnit
          { tag := tag, origin := .dispatch, target := .pool k, mode := n, setpoint := setpoint, expiry := expiry,
            age := age } = some u := fun age expiry => by
        rw [State.selectUnit_accepted, State.selectUnit_heard]
        exact hsel age expiry
      obtain ⟨hmember, _⟩ := State.mem_eligible_units.mp ((State.selectUnit_eq_some_iff rfl).mp (hsel 0 none)).1
      have hmembers : s.plan.pools[k.val].members ≠ 0 := fun h => by simp [h] at hmember
      have hw : s0.whollyUnavailable (.pool k) ≠ true := by
        rw [State.whollyUnavailable_heard]
        exact State.not_whollyUnavailable_pool hmember (by rw [hm]; exact nofun) (by rw [hm]; exact nofun)
      have haccepts := State.queueOrder_order (s := s0) (t := .pool k) (tag := tag) (n := n) (setpoint := setpoint)
        (validity := validity) (now := s.now) hw rfl (by
          show s0.orders.length < 16
          rw [ho0]
          decide)
      have hatt := State.attemptUnit_accepted (s := s0) (t := .pool k) (tag := tag) (setpoint := setpoint)
        (validity := validity) (now := s.now) ho0 hrest0 (by rw [hu0, hr]) hne hroute0 (.inr hsel0)
      rw [exec_order_pool hl hd hs hmembers, haccepts]
      refine congrArg Host.Outcome.next ((State.acceptArrival_pool rfl).trans ?_)
      have hqueue : (s0.accepted (State.orderArrival tag (.pool k) n setpoint validity s.now)).orders =
          [State.orderRecord (State.orderArrival tag (.pool k) n setpoint validity s.now) s0.ageCount] := by
        rw [State.orders_accepted, ho0, List.nil_append]
      exact (State.poolPass_starts hqueue (hsel0 _ _) hatt (hempty _ _)).trans (hstart _)

/-- Settles O27: an order for a unit already in its mode, or with no route, ends at once. -/
theorem acceptedOrderEndsAtOnce : Obligations.AcceptedOrderEndsAtOnce := by
  intro src ident tag u m n setpoint validity s hl hd hs ho hin hm hsilent ht hr i accepted
  set s0 := s.heard .plant src with hs0
  have ho0 : s0.orders = [] := (State.heard_orders ..).trans ho
  have hu0 : s0.unit u = s.unit u := State.unit_heard ..
  have hplan0 : s0.plan = s.plan := State.heard_plan ..
  have hage : s0.ageCount = s.ageCount := State.heard_ageCount ..
  have hrest0 : s0.AtRest u m := ⟨by rwa [hplan0], by rwa [hu0], by rwa [hu0], by rwa [hu0]⟩
  have hnone : ∀ q ∈ s0.orders, q.target ≠ .unit u := by rw [ho0]; exact nofun
  have hsup : s0.supersedeFor (.unit u) = s0 := State.supersedeQueued_of_none hnone
  set a := s0.accepted (State.orderArrival tag (.unit u) n setpoint validity s.now) with ha
  set c : Claim := { origin := .dispatch, tag := tag, mode := n, setpoint := setpoint } with hc
  have hexec : exec i s = .next (a.startAttempt u) := by
    have haccepts := State.queueOrder_order (s := s0) (tag := tag) (n := n) (setpoint := setpoint)
      (validity := validity) (now := s.now)
      (State.not_whollyUnavailable_unit (by rw [hu0, hm]; exact nofun) (by rw [hu0, hm]; exact nofun))
      (State.outranked_eq_false (by rw [hu0, hr]) hnone) (by rw [hsup, ho0]; decide)
    rw [hsup, State.acceptArrival_unit rfl, State.actOn_rest (by rw [State.unit_accepted, hu0, ht])] at haccepts
    rw [← haccepts]
    exact exec_order_unit hl hd hs hin
  have htaken : a.takenClaim u = some (.queue 0, c) := State.takenClaim_accepted ho0 (by rw [hu0, hr]) (.inl rfl)
  obtain ⟨hdone, hother⟩ := State.startAttempt_takes (State.atRest_accepted hrest0) htaken
  have hleft : a.removeClaim u (.queue 0) = accepted := by
    rw [ha, State.removeClaim_accepted ho0, hage]
    rfl
  have hidle : ∀ t : State, (t.unit u).reserveClaim = none → t.orders = [] → t.startAttempt u = t := fun t =>
    State.startAttempt_idle
  have haccepted : accepted.orders = [] ∧ accepted.unit u = s.unit u :=
    ⟨(State.originate_orders ..).trans ho0, (State.unit_originate ..).trans hu0⟩
  refine ⟨fun hmn => ?_, fun hmn hroute => ?_⟩
  · have hsettled : (a.settleSetpoint u n setpoint).removeClaim u (.queue 0) = accepted.settleSetpoint u n setpoint := by
      rw [← hleft, ha, State.accepted_order, State.settleSetpoint_withOrders, ho0]
      exact (State.settleSetpoint_withOrders (s := s0.sendStatus tag .accepted .none (unitByte u) (modeCode n) .dispatch)
        [] (s0.ageCount + 1) n setpoint).symm
    have hresult : exec i s = .next ((accepted.settleSetpoint u n setpoint).sendStatus tag .done .none (unitByte u)
        (modeCode n) .dispatch) := by
      rw [hexec, hdone hmn.symm, State.completeAtOnce, hsettled, hidle]
      · rfl
      · rw [State.sendClaimStatus, State.sendStatus, State.unit_originate, State.settleSetpoint_reserveClaim,
          haccepted.2, hr]
      · rw [State.sendClaimStatus, State.sendStatus, State.originate_orders, State.settleSetpoint_orders, haccepted.1]
    rw [State.settleSetpoint_eq, haccepted.2] at hresult
    refine ⟨fun h => ?_, fun h => ?_⟩
    · rw [if_pos h, show accepted.plan = s.plan from (State.originate_plan ..).trans hplan0] at hresult
      exact hresult
    · rw [if_neg] at hresult
      · exact hresult
      · rintro ⟨hmode, hsp⟩
        rcases h with ⟨hg, hp⟩ | h
        · exact hmode.elim hg hp
        · exact hsp h
  · have hplan : a.plan = s.plan := by
      rw [ha, State.accepted_order]
      exact (State.originate_plan ..).trans hplan0
    have hroute' : a.lookupRoute u m n = none := (State.lookupRoute_congr hplan ..).trans hroute
    rw [hexec, (hother (Ne.symm hmn)).1 hroute', State.failNoRoute, hleft, hidle]
    · rfl
    · rw [State.sendClaimStatus, State.sendStatus, State.unit_originate, haccepted.2, hr]
    · rw [State.sendClaimStatus, State.sendStatus, State.originate_orders, haccepted.1]

end Sys2Proof.Machine
end

section
/-!
PROOFS. Chapter 3: orders offered to a transition (R50, R77 to R80) and orders that expire (R58).
-/

namespace Sys2Proof.Machine
namespace State

variable {s : State} {u : UnitNo} {t x : Transition} {c : Claim} {o : Order}

theorem offer_outranked (h : rank c.origin < rank t.source) : s.offer u t c = s := if_pos h

theorem offer_merges (h : ¬ rank c.origin < rank t.source) (hm : c.mode = t.target) : s.offer u t c = s.merge u t c :=
  (if_neg h).trans (if_pos hm)

theorem offer_running (h : ¬ rank c.origin < rank t.source) (hm : c.mode ≠ t.target) (hp : t.phaseState = .running) :
    s.offer u t c = s.updTransition u fun t => { t with cut := some c.name } := by
  unfold offer
  rw [if_neg h, if_neg hm, hp]

theorem offer_waiting (h : ¬ rank c.origin < rank t.source) (hm : c.mode ≠ t.target) (hp : t.phaseState = .waiting) :
    s.offer u t c = (s.endTransition u .cut .none false).startAttempt u := by
  unfold offer
  rw [if_neg h, if_neg hm, hp]

/-- A merge before its wait-list entry moves: the old claim SUPERSEDED, the new one's name and setpoint, STARTED (R78). -/
def renamed (u : UnitNo) (t : Transition) (c : Claim) (s : State) : State :=
  (((s.sendTransitionStatus u t .superseded .none).removeOffered u c).updTransition u fun t =>
    { t with source := c.origin, reference := c.tag, setpoint := c.setpoint }).sendClaimStatus u c .started .none

theorem merge_renamed (h : ¬ (t.phaseState = .waiting ∧ rank t.source ≠ rank c.origin)) :
    s.merge u t c = s.renamed u t c := if_neg h

theorem merge_reranks (h : t.phaseState = .waiting ∧ rank t.source ≠ rank c.origin) :
    s.merge u t c = (s.renamed u t c).rerankEntry u (rank c.origin) := if_pos h

/-- An order that has just been appended leaves at a merge, and the orders before it stay. -/
theorem renamed_withOrders {l : List Order} {age : Half} (hc : c.origin ≠ .reserve) (hl : ∀ q ∈ l, q.target ≠ .unit u)
    (ho : o.target = .unit u) (hx : (s.unit u).transition = some t) :
    (s.withOrders (l ++ [o]) age).renamed u t c =
      (((s.withOrders l age).sendTransitionStatus u t .superseded .none).updUnit u fun r =>
        { r with
          transition := some { t with source := c.origin, reference := c.tag, setpoint := c.setpoint } }).sendClaimStatus
        u c .started .none := by
  have hstatus : ∀ l, (s.withOrders l age).sendTransitionStatus u t .superseded .none =
      (s.sendTransitionStatus u t .superseded .none).withOrders l age := fun l => sendStatus_withOrders ..
  have hfilter : (l ++ [o]).filter (fun q => !q.isFor u) = l := by
    rw [List.filter_append, List.filter_eq_self.mpr fun q hq => by simp [Order.isFor, hl q hq],
      List.filter_cons_of_neg (by simp [Order.isFor, ho]), List.filter_nil, List.append_nil]
  have hremoved : ((s.sendTransitionStatus u t .superseded .none).withOrders (l ++ [o]) age).removeOffered u c =
      (s.sendTransitionStatus u t .superseded .none).withOrders l age :=
    (if_neg hc).trans (congrArg (fun k => withOrders k age (s.sendTransitionStatus u t .superseded .none)) hfilter)
  have htransition : (((s.sendTransitionStatus u t .superseded .none).withOrders l age).unit u).transition = some t :=
    (congrArg UnitRecord.transition (unit_originate (s := s) ..)).trans hx
  unfold renamed
  rw [hstatus, hremoved, updTransition_eq htransition, hstatus]

/-! ## Orders that expire (R58) -/

/-- The order o leaves position k and ends EXPIRED, and a cut that names it is cleared (R58, R79). -/
def expired (k : Nat) (o : Order) (s : State) : State :=
  (({ s with orders := s.orders.eraseIdx k } : State).clearCutOf o).sendOrderStatus o .expired .none

variable {k : Nat}

theorem expireOrder_none (h : s.orders[k]? = none) : s.expireOrder k = s := by
  unfold expireOrder
  rw [h]

theorem expireOrder_early (h : s.orders[k]? = some o) (hr : s.reached o.expiry = false) : s.expireOrder k = s := by
  unfold expireOrder
  rw [h]
  exact if_neg (by simp [hr])

theorem expireOrder_due (h : s.orders[k]? = some o) (hr : s.reached o.expiry = true) :
    s.expireOrder k = (s.expired k o).attemptFor o := by
  unfold expireOrder
  rw [h]
  exact if_pos hr

theorem expired_pool {p : Fin 4} (h : o.target = .pool p) : s.expired k o =
    ({ s with orders := s.orders.eraseIdx k } : State).sendStatus o.tag .expired .none 0xFF (modeCode o.mode)
      o.origin := by
  unfold expired clearCutOf sendOrderStatus
  rw [h]
  rfl

theorem expired_unit (h : o.target = .unit u) : s.expired k o =
    (({ s with orders := s.orders.eraseIdx k } : State).clearCut u o.origin o.tag).sendStatus o.tag .expired .none
      (unitByte u) (modeCode o.mode) o.origin := by
  unfold expired clearCutOf sendOrderStatus
  rw [h]
  rfl

theorem orders_expired_unit (h : o.target = .unit u) : (s.expired k o).orders = s.orders.eraseIdx k := by
  rw [expired_unit h]
  exact originate_orders ..

theorem clearCut_rest (h : (s.unit u).transition = none) (origin : Origin) (tag : Half) :
    s.clearCut u origin tag = s := updTransition_none h

theorem clearCut_moving (h : (s.unit u).transition = some x) (origin : Origin) (tag : Half) :
    s.clearCut u origin tag = s.updUnit u fun r =>
      { r with
        transition := some
          { x with cut := if x.cut = some { origin := origin, tag := tag } then none else x.cut } } := by
  unfold clearCut
  rw [updTransition_eq h]
  split <;> rfl

theorem attemptFor_pool {p : Fin 4} (h : o.target = .pool p) : s.attemptFor o = s := by
  unfold attemptFor
  rw [h]

theorem attemptFor_unit (h : o.target = .unit u) : s.attemptFor o = s.startAttempt u := by
  unfold attemptFor
  rw [h]

/-- A unit that is not at rest starts nothing, and orders for units alone have no pool pass (R53, R57). -/
theorem startAttempt_of_units (h : ∀ m, ¬ s.AtRest u m) (ho : ∀ q ∈ s.orders, ∃ v, q.target = .unit v) :
    s.startAttempt u = s := (startAttempt_of_not_rest h).trans (poolPass_of_units ho)

end State

/-- Settles O28: the offer by the transition that the order meets. -/
theorem orderIsOfferedToTheTransition : Obligations.OrderIsOfferedToTheTransition := by
  intro src ident tag u m n x setpoint validity s hl hd hs hnone hlen hin hm ht hr i record s0 accepted queued
  set h := s.heard .plant src with hh
  set a := h.accepted (State.orderArrival tag (.unit u) n setpoint validity s.now) with ha
  set c : Claim := { origin := .dispatch, tag := tag, mode := n, setpoint := setpoint } with hc
  have hu : h.unit u = s.unit u := State.unit_heard ..
  have hnone' : ∀ q ∈ h.orders, q.target ≠ .unit u := by rwa [hh, State.heard_orders]
  have hsup : h.supersedeFor (.unit u) = h := State.supersedeQueued_of_none hnone'
  have htransition : (a.unit u).transition = some x := by rw [ha, State.unit_accepted, hu, ht]
  have hqueued : a = queued := by
    rw [ha, State.accepted_order, hh, State.heard_orders, State.heard_ageCount]
    exact (State.sendStatus_withOrders (s := s.heard .plant src) ..).symm
  have hexec : exec i s = .next (a.offer u x c) := by
    have haccepts := State.queueOrder_order (s := h) (tag := tag) (n := n) (setpoint := setpoint)
      (validity := validity) (now := s.now)
      (State.not_whollyUnavailable_unit (by rw [hu, hm]; exact nofun) (by rw [hu, hm]; exact nofun))
      (State.outranked_eq_false (by rw [hu, hr]) hnone') (by rw [hsup, hh, State.heard_orders]; exact hlen)
    rw [hsup, State.acceptArrival_unit rfl, State.actOn_moving htransition] at haccepts
    exact (exec_order_unit hl hd hs hin).trans (congrArg _ haccepts)
  refine ⟨fun hsource => ?_, fun hsource => ?_⟩
  · rw [hexec, State.offer_outranked (hsource ▸ show rank .dispatch < rank .reserve by decide), hqueued]
  · have hrank : ¬ rank .dispatch < rank x.source := by
      cases h : x.source with
      | reserve => exact absurd h hsource
      | dispatch => decide
      | schedule => decide
    refine ⟨fun htarget hphase => ?_, fun htarget hphase => ?_, fun htarget => ?_⟩
    · rw [hexec, State.offer_running hrank (Ne.symm htarget) hphase, State.updTransition_eq htransition, hqueued]
      rfl
    · rw [hexec, State.offer_waiting hrank (Ne.symm htarget) hphase, hqueued]
    · intro merged
      have hmerged : a.renamed u x c = merged := by
        rw [ha, State.accepted_order, hh, State.heard_orders, State.heard_ageCount,
          State.renamed_withOrders (c := c) nofun hnone rfl (by rw [State.sendStatus, State.unit_originate, ← hh, hu, ht])]
        have haccepted : ((s.heard .plant src).sendStatus tag .accepted .none (targetUnitByte (.unit u)) (modeCode n)
            .dispatch).withOrders s.orders (s.ageCount + 1) = accepted s0 := by
          rw [← State.sendStatus_withOrders]
          refine congrArg (State.sendStatus tag .accepted .none (unitByte u) (modeCode n) .dispatch) ?_
          show ({ s.heard .plant src with orders := s.orders, ageCount := s.ageCount + 1 } : State) = s0
          rw [← State.heard_orders (s := s) .plant src]
        rw [haccepted]
        rfl
      rw [hexec, State.offer_merges hrank htarget.symm, ← hmerged]
      refine ⟨fun hstays => ?_, fun hphase hx => ?_⟩
      · rw [State.merge_renamed]
        rintro ⟨hphase, hne⟩
        rcases hstays with h | h
        · exact absurd (h.symm.trans hphase) nofun
        · exact hne (by rw [h])
      · rw [State.merge_reranks ⟨hphase, hx ▸ show rank .schedule ≠ rank .dispatch by decide⟩]
        rfl

/-- Settles O30: the order at its position leaves when its expiry is reached, and its unit makes a start attempt. -/
theorem queuedOrderExpires : Obligations.QueuedOrderExpires := by
  intro k s
  have hexec : exec (.orderExpiry k) s = .next (s.expireOrder k.val) := rfl
  refine ⟨fun hk => ?_, fun o hk => ⟨fun hearly => ?_, fun d hd hdue => ?_⟩⟩
  · rw [hexec, State.expireOrder_none hk]
  · rw [hexec, State.expireOrder_early hk (State.not_reached hearly)]
  · have hexpired : exec (.orderExpiry k) s = .next ((s.expired k.val o).attemptFor o) :=
      congrArg Host.Outcome.next (State.expireOrder_due hk (State.reached_of_le hd hdue))
    have hunits : ∀ u, o.target = .unit u → (∀ q ∈ s.orders, ∃ v, q.target = .unit v) →
        ∀ q ∈ (s.expired k.val o).orders, ∃ v, q.target = .unit v := fun u hu hq q hqt =>
      hq q (List.mem_of_mem_eraseIdx (State.orders_expired_unit hu ▸ hqt))
    refine ⟨fun p hp => ?_, fun u x hu hx hq => ?_, fun u hu hx hm hq => ?_⟩
    · rw [hexpired, State.attemptFor_pool hp, State.expired_pool hp]
    · have hcut := State.clearCut_moving (s := { s with orders := s.orders.eraseIdx k.val }) hx o.origin o.tag
      have hmoving : ((s.expired k.val o).unit u).transition ≠ none := by
        rw [State.expired_unit hu, hcut, State.sendStatus, State.unit_originate,
          State.unit_updUnit_self]
        exact nofun
      rw [hexpired, State.attemptFor_unit hu,
        State.startAttempt_of_units (fun m hrest => hmoving hrest.transition) (hunits u hu hq), State.expired_unit hu, hcut]
    · have hleft := State.expired_unit (s := s) (k := k.val) hu
      rw [State.clearCut_rest (by exact hx)] at hleft
      have hmode : ((s.expired k.val o).unit u).mode = (s.unit u).mode := by
        rw [hleft, State.sendStatus, State.unit_originate]
        rfl
      rw [hexpired, State.attemptFor_unit hu,
        State.startAttempt_of_units (fun m hrest => hm m (hmode ▸ hrest.mode)) (hunits u hu hq), hleft]

end Sys2Proof.Machine
end

section
/-!
PROOFS. Chapters 4 and 5: the deadlines of a transition (R70, R74, R75), and the resources it asks for, holds and
releases (R89 to R99).
-/

namespace Sys2Proof.Machine
namespace State

variable {s : State} {u : UnitNo} {x : Transition}

/-! ## Deadlines (R70, R74, R75) -/

theorem phaseDue_early (ht : (s.unit u).transition = some x) (h : x.phaseState = .waiting ∨ s.now < x.deadline) :
    s.phaseDue u = false := by
  unfold phaseDue
  rw [ht]
  rcases h with h | h
  · simp [h]
  · simp [Nat.not_le.mpr h]

theorem phaseDue_due (ht : (s.unit u).transition = some x) (hp : x.phaseState = .running) (h : x.deadline ≤ s.now) :
    s.phaseDue u = true := by
  unfold phaseDue
  rw [ht]
  simp [hp, h]

theorem waitDue_early (ht : (s.unit u).transition = some x) (h : x.phaseState = .running ∨ s.now < x.deadline) :
    s.waitDue u = false := by
  unfold waitDue
  rw [ht]
  rcases h with h | h
  · simp [h]
  · simp [Nat.not_le.mpr h]

theorem waitDue_due (ht : (s.unit u).transition = some x) (hp : x.phaseState = .waiting) (h : x.deadline ≤ s.now) :
    s.waitDue u = true := by
  unfold waitDue
  rw [ht]
  simp [hp, h]

theorem phaseExpires_retries (ht : (s.unit u).transition = some x) (h : x.retriesUsed < (s.currentPhase x).retries) :
    s.phaseExpires u = s.retryPhase u x := by
  unfold phaseExpires
  rw [ht]
  exact if_pos h

theorem phaseExpires_fails (ht : (s.unit u).transition = some x) (h : (s.currentPhase x).retries ≤ x.retriesUsed) :
    s.phaseExpires u = ((s.timeoutPhase u x).startAttempt u).drainCheck := by
  unfold phaseExpires
  rw [ht]
  exact if_neg (Nat.not_lt.mpr h)

theorem sendPhaseCommand_eq (ht : (s.unit u).transition = some x) : s.sendPhaseCommand u =
    (s.sendUnitCommand u (s.currentPhase x).command (if (s.currentPhase x).sendSetpoint then x.setpoint else 0)
      (converterByte x.heldConverter) (natByte x.route.val) (natByte x.phaseNo)).updUnit u fun r =>
        { r with lastSetpoint := if (s.currentPhase x).sendSetpoint then x.setpoint else r.lastSetpoint } := by
  unfold sendPhaseCommand
  rw [ht]
  dsimp only
  split
  · rfl
  · exact (updUnit_eq_self rfl).symm

/-- A retry: the phase command once more, with its alert and duty event (R74). -/
theorem retryPhase_eq (ht : (s.unit u).transition = some x) : s.retryPhase u x =
    (((s.sendUnitCommand u (s.currentPhase x).command (if (s.currentPhase x).sendSetpoint then x.setpoint else 0)
      (converterByte x.heldConverter) (natByte x.route.val) (natByte x.phaseNo)).updUnit u fun r =>
        { r with
          lastSetpoint := if (s.currentPhase x).sendSetpoint then x.setpoint else r.lastSetpoint
          transition := some
            { x with
              retriesUsed := x.retriesUsed + 1
              deadline := s.now + 100 * (s.currentPhase x).timeLimit.toNat } }).sendAlert .phaseOverrun (unitByte u)
      (natHalf (x.phaseNo * 256 + (x.retriesUsed + 1)))).dutyEvent .phaseOverruns u := by
  set y : Transition := { x with retriesUsed := x.retriesUsed + 1 } with hy
  have hused : s.updTransition u (fun t => { t with retriesUsed := t.retriesUsed + 1 }) =
      s.updUnit u fun r => { r with transition := some y } := updTransition_eq ht _
  have hty : ((s.updUnit u fun r => { r with transition := some y }).unit u).transition = some y := by
    rw [unit_updUnit_self]
  unfold retryPhase
  rw [hused]
  dsimp only
  have hphase : (s.updUnit u fun r => { r with transition := some y }).currentPhase y = s.currentPhase x := rfl
  rw [sendPhaseCommand_eq hty, hphase]
  refine congrArg (fun t => (sendAlert .phaseOverrun (unitByte u) (natHalf (x.phaseNo * 256 + (x.retriesUsed + 1)))
    t).dutyEvent .phaseOverruns u) ?_
  simp only [updTransition, sendUnitCommand_updUnit, updUnit_updUnit]
  refine updUnit_congr ?_
  have hnow : ∀ c sp cv r p f, (updUnit u f (s.sendUnitCommand u c sp cv r p)).now = s.now :=
    fun _ _ _ _ _ _ => originate_now ..
  have hcurrent : ∀ c sp cv r p f, (updUnit u f (s.sendUnitCommand u c sp cv r p)).currentPhase x = s.currentPhase x :=
    fun _ _ _ _ _ _ => currentPhase_congr (originate_plan ..) x
  simp only [inTenths, hnow, hcurrent]
  rfl

/-- The effects of a timeout before the end of the transition (R75). -/
def phaseFailed (u : UnitNo) (x : Transition) (s : State) : State :=
  (((s.sendUnitCommand u s.plan.station.abortCommand 0 0xFF 0 0).updUnit u fun r => { r with mode := .unknown }).sendAlert
    .phaseOverrun (unitByte u) (natHalf (x.phaseNo * 256))).dutyEvent .phaseOverruns u

theorem timeoutPhase_eq : s.timeoutPhase u x = (s.phaseFailed u x).endTransition u .failed .phaseTimeout false := by
  unfold timeoutPhase phaseFailed
  dsimp only
  rw [changeMode_quiet rfl]

theorem unit_phaseFailed : (s.phaseFailed u x).unit u = { s.unit u with mode := .unknown } := by
  rw [phaseFailed, unit_dutyEvent, unit_sendAlert, unit_updUnit_self, unit_sendUnitCommand]

theorem calm_phaseFailed : Calm s (s.phaseFailed u x) := by
  rw [phaseFailed, ← changeMode_quiet rfl]
  exact (calm_originate _).trans ((calm_changeMode _).trans ((calm_originate _).trans (calm_dutyEvent _)))

/-- With no claim waiting, and no drain, nothing follows the end of a transition (R86). -/
theorem afterEnd_idle (st : Status) (r : Reason) (byTrip : Bool) (ho : s.orders = [])
    (hr : (s.unit u).reserveClaim = none) (hd : s.dispatcher ≠ .draining) :
    ((s.endTransition u st r byTrip).startAttempt u).drainCheck = s.endTransition u st r byTrip := by
  rw [startAttempt_idle (reserveClaim_endTransition.trans hr) (orders_endTransition.trans ho),
    drainCheck_of_not_draining]
  rw [(moves_endTransition (b := true) st r byTrip).dispatcher]
  exact hd

theorem mode_endTransition (st : Status) (r : Reason) (byTrip : Bool) (v : UnitNo) :
    ((s.endTransition u st r byTrip).unit v).mode = (s.unit v).mode :=
  (inert_keeps.endTransition (inert_keeps.refl _)).mode v

end State

/-- Settles O31: a deadline by whether it is reached, and a phase's by the retries that are left. -/
theorem deadlinesOfATransition : Obligations.DeadlinesOfATransition := by
  have hphase : ∀ (u : UnitNo) (s : State),
      exec (.phaseDeadlineExpiry u) s = .next (s.whenDue (s.phaseDue u) (State.phaseExpires u)) := fun _ _ => rfl
  have hwait : ∀ (u : UnitNo) (s : State),
      exec (.waitDeadlineExpiry u) s = .next (s.whenDue (s.waitDue u) (State.waitExpires u)) := fun _ _ => rfl
  refine ⟨?retry, ?timeout, ?wait⟩
  case retry =>
    intro u x s hx
    refine ⟨fun h => ?_, ?_⟩
    · rw [hphase, State.whenDue_early (State.phaseDue_early hx h)]
    · intro hrun hdue p converter hretry
      rw [hphase, State.whenDue_due (State.phaseDue_due hx hrun hdue), State.phaseExpires_retries hx hretry,
        State.retryPhase_eq hx]
      rfl
  case timeout =>
    intro u m x s hm hx hrun hdue hused
    have hexec : exec (.phaseDeadlineExpiry u) s =
        .next ((((s.phaseFailed u x).endTransition u .failed .phaseTimeout false).startAttempt u).drainCheck) := by
      rw [hphase, State.whenDue_due (State.phaseDue_due hx hrun hdue), State.phaseExpires_fails hx hused,
        State.timeoutPhase_eq]
    have hunknown : ((((s.phaseFailed u x).endTransition u .failed .phaseTimeout false)).unit u).mode = .unknown := by
      rw [State.mode_endTransition, State.unit_phaseFailed]
    have hidle : s.orders = [] → (s.unit u).reserveClaim = none → s.dispatcher ≠ .draining →
        exec (.phaseDeadlineExpiry u) s =
          .next ((s.phaseFailed u x).endTransition u .failed .phaseTimeout false) := fun ho hr hd => by
      rw [hexec, State.afterEnd_idle _ _ _ (State.calm_phaseFailed.orders.trans ho) (by rw [State.unit_phaseFailed]; exact hr)
        (by rwa [State.calm_phaseFailed.dispatcher])]
    refine ⟨⟨_, hexec, ?_, ?_⟩, hidle, fun ho hr hh hc hw hd => ?_⟩
    · rw [State.unit_drainCheck, (inert_keeps.startAttempt (inert_keeps.refl _)).mode, hunknown]
    · rw [State.unit_drainCheck]
      exact (State.leftAlone_startAttempt u (fun m h => absurd (hunknown.symm.trans h) nofun)
        State.transition_endTransition).1
    · rw [hidle ho hr hd, State.endTransition_bare rfl (x := x) (by rw [State.unit_phaseFailed]; exact hx) hc hw
        (by rw [State.unit_phaseFailed]; exact hh)]
      rfl
  case wait =>
    intro u x s hx
    refine ⟨fun h => ?_, fun hwaiting hdue => ?_⟩
    · rw [hwait, State.whenDue_early (State.waitDue_early hx h)]
    · have hexec : exec (.waitDeadlineExpiry u) s =
          .next (((s.endTransition u .failed .resourceWait false).startAttempt u).drainCheck) := by
        rw [hwait, State.whenDue_due (State.waitDue_due hx hwaiting hdue)]
        rfl
      have hidle : s.orders = [] → (s.unit u).reserveClaim = none → s.dispatcher ≠ .draining →
          exec (.waitDeadlineExpiry u) s = .next (s.endTransition u .failed .resourceWait false) := fun ho hr hd => by
        rw [hexec, State.afterEnd_idle _ _ _ ho hr hd]
      refine ⟨⟨_, hexec, ?_⟩, hidle, fun ho hr hh hc hw hd => ?_⟩
      · rw [State.unit_drainCheck, (inert_keeps.startAttempt (inert_keeps.refl _)).mode, State.mode_endTransition]
      · rw [hidle ho hr hd, State.endTransition_bare rfl hx hc hw hh]

end Sys2Proof.Machine
end

section
/-!
PROOFS. Chapter 5: wait lists (R89, R93, R94), and the requests and grants of converters and windows (R90, R91, R96).
-/

namespace Sys2Proof.Machine

/-! ## Wait lists (R89, R93, R94) -/

theorem before_iff (a b : WaitEntry) :
    a.before b = true ↔ b.rank < a.rank ∨ (a.rank = b.rank ∧ a.serial < b.serial) := by
  simp [WaitEntry.before]

/-- In a list where whatever e goes before is followed only by such entries, e stands behind the others. -/
theorem placeEntry_eq {e : WaitEntry} {l : List WaitEntry}
    (h : l.Pairwise fun a b => e.before a = true → e.before b = true) :
    placeEntry e l = (l.filter fun x => !e.before x) ++ e :: l.filter e.before := by
  induction l with
  | nil => rfl
  | cons x xs ih =>
    obtain ⟨hx, hxs⟩ := List.pairwise_cons.mp h
    unfold placeEntry
    split
    · next hbefore =>
      have hall : ∀ y ∈ x :: xs, e.before y = true := by
        intro y hy
        rcases List.mem_cons.mp hy with rfl | hy
        · exact hbefore
        · exact hx y hy hbefore
      rw [List.filter_eq_self.mpr hall, List.filter_eq_nil_iff.mpr fun y hy => by simp [hall y hy], List.nil_append]
    · next hbehind =>
      rw [ih hxs, List.filter_cons_of_pos (by simpa using hbehind), List.filter_cons_of_neg hbehind, List.cons_append]

theorem placeEntry_newest {e : WaitEntry} {l : List WaitEntry} (hs : ∀ x ∈ l, x.serial < e.serial)
    (hr : l.Pairwise fun a b => b.rank ≤ a.rank) :
    placeEntry e l = (l.filter fun x => decide (e.rank ≤ x.rank)) ++ e :: l.filter fun x => decide (x.rank < e.rank) := by
  have hbefore : ∀ x ∈ l, (e.before x = true ↔ x.rank < e.rank) := by
    intro x hx
    have := hs x hx
    rw [before_iff]
    omega
  rw [placeEntry_eq (hr.imp_of_mem fun {a b} ha hb hab h => by
    rw [hbefore a ha] at h
    rw [hbefore b hb]
    omega)]
  have hfilter : l.filter e.before = l.filter fun x => decide (x.rank < e.rank) :=
    List.filter_congr fun x hx => Bool.eq_iff_iff.mpr ((hbefore x hx).trans decide_eq_true_iff.symm)
  rw [hfilter]
  refine congrArg (· ++ _) (List.filter_congr fun x hx => Bool.eq_iff_iff.mpr ?_)
  rw [Bool.not_eq_true', ← Bool.not_eq_true, hbefore x hx, decide_eq_true_iff, Nat.not_lt]

theorem placeEntry_ordered {e : WaitEntry} {l : List WaitEntry}
    (h : l.Pairwise fun a b => b.rank < a.rank ∨ (b.rank = a.rank ∧ a.serial < b.serial)) :
    placeEntry e l =
      (l.filter fun x => decide (e.rank < x.rank ∨ (e.rank = x.rank ∧ x.serial ≤ e.serial))) ++
        e :: l.filter fun x => decide (x.rank < e.rank ∨ (x.rank = e.rank ∧ e.serial < x.serial)) := by
  rw [placeEntry_eq (h.imp fun {a b} hab ha => by
    rw [before_iff] at ha ⊢
    omega)]
  have hfilter : l.filter e.before = l.filter fun x => decide (x.rank < e.rank ∨ (x.rank = e.rank ∧ e.serial < x.serial)) := by
    refine List.filter_congr fun x _ => Bool.eq_iff_iff.mpr ?_
    rw [before_iff, decide_eq_true_iff]
    omega
  rw [hfilter]
  refine congrArg (· ++ _) (List.filter_congr fun x _ => Bool.eq_iff_iff.mpr ?_)
  rw [Bool.not_eq_true', ← Bool.not_eq_true, before_iff, decide_eq_true_iff]
  omega

theorem rerank_absent {u : UnitNo} {l : List WaitEntry} (k : Nat) (h : ∀ e ∈ l, e.unit ≠ u) : rerank u k l = l := by
  unfold rerank
  rw [List.find?_eq_none.mpr fun e he => by simpa using h e he]

theorem rerank_present {u : UnitNo} {e : WaitEntry} {before behind : List WaitEntry} (k : Nat) (he : e.unit = u)
    (h : ∀ x ∈ before ++ behind, x.unit ≠ u) :
    rerank u k (before ++ e :: behind) = placeEntry { e with rank := k } (before ++ behind) := by
  have hbefore : ∀ x ∈ before, x.unit ≠ u := fun x hx => h x (List.mem_append_left _ hx)
  have hbehind : ∀ x ∈ behind, x.unit ≠ u := fun x hx => h x (List.mem_append_right _ hx)
  have hfind : (before ++ e :: behind).find? (fun x => x.unit = u) = some e := by
    rw [List.find?_append, List.find?_eq_none.mpr fun x hx => by simpa using hbefore x hx,
      List.find?_cons_of_pos (by simpa using he)]
    rfl
  have hothers : withoutUnit u (before ++ e :: behind) = before ++ behind := by
    unfold withoutUnit
    rw [List.filter_append, List.filter_cons_of_neg (by simpa using he),
      List.filter_eq_self.mpr fun x hx => by simpa using hbefore x hx,
      List.filter_eq_self.mpr fun x hx => by simpa using hbehind x hx]
  unfold rerank
  rw [hfind, hothers]

namespace State

variable {s : State} {u : UnitNo} {x : Transition}

/-- A function applied to every waterway changes the waterways alone. -/
theorem forall_waterways (f : Waterway → Waterway) (w : WaterwayNo) :
    (waterwayNumbers.foldl (fun s w => s.updWaterway w f) s).waterway w = f (s.waterway w) := by
  revert w
  show ∀ w, ((s.updWaterway 0 f).updWaterway 1 f).waterway w = f (s.waterway w)
  refine Fin.forall_fin_two.mpr ⟨?_, ?_⟩
  · rw [waterway_updWaterway_of_ne _ (by decide), waterway_updWaterway_self]
  · rw [waterway_updWaterway_self, waterway_updWaterway_of_ne _ (by decide)]

/-! ## Requests and grants (R90, R91, R96) -/

theorem freeConverter_some (c : ConverterNo) (hin : c.val < s.plan.station.converterCount.toNat)
    (hfree : s.converter c = none) (hlow : ∀ d, d < c → s.converter d ≠ none) : s.freeConverter = some c := by
  unfold freeConverter converterNumbers
  have hfits : (s.converterInService c && (s.converter c).isNone) = true := by simp [converterInService, hin, hfree]
  revert c
  refine Fin.forall_fin_two.mpr ⟨fun _ _ _ hfits => List.find?_cons_of_pos hfits, fun _ _ hlow hfits => ?_⟩
  rw [List.find?_cons_of_neg (by simp [hlow 0 (by decide)])]
  exact List.find?_cons_of_pos hfits

theorem freeConverter_none (h : ∀ c : ConverterNo, c.val < s.plan.station.converterCount.toNat → s.converter c ≠ none) :
    s.freeConverter = none := by
  refine List.find?_eq_none.mpr fun c _ => ?_
  simpa [converterInService] using h c

theorem requestConverter_granted {c : ConverterNo} (h : s.freeConverter = some c) :
    s.requestConverter u = s.grantConverter c u := by
  unfold requestConverter
  rw [h]

theorem requestConverter_waits (h : s.freeConverter = none) : s.requestConverter u = s.waitForConverter u := by
  unfold requestConverter
  rw [h]

theorem newEntry_eq (ht : (s.unit u).transition = some x) :
    s.newEntry u = { unit := u, rank := rank x.source, requestTime := s.now, serial := s.requestSerial } := by
  unfold newEntry
  rw [ht]

theorem waitForWindow_eq (w : WaterwayNo) (ht : (s.unit u).transition = some x) : s.waitForWindow w u =
    { (s.updWaterway w fun y =>
        { y with
          wait := placeEntry { unit := u, rank := rank x.source, requestTime := s.now, serial := s.requestSerial } y.wait })
      with requestSerial := s.requestSerial + 1 } := by
  unfold waitForWindow
  rw [newEntry_eq ht]

theorem unit_waitForWindow (w : WaterwayNo) (v : UnitNo) : (s.waitForWindow w u).unit v = s.unit v := rfl

theorem requestWindow_granted (hf : (s.waterway (s.waterwayOf u)).window = .free)
    (ha : (s.waterway (s.waterwayOf u)).alarm = false) : s.requestWindow u = s.grantWindow (s.waterwayOf u) u :=
  if_pos (by simp [hf, ha])

theorem requestWindow_waits (h : (s.waterway (s.waterwayOf u)).window ≠ .free ∨ (s.waterway (s.waterwayOf u)).alarm = true) :
    s.requestWindow u = s.waitForWindow (s.waterwayOf u) u := by
  refine if_neg ?_
  rcases h with h | h <;> simp [h]

/-- A transition that a change of its record leaves in the same phase becomes RUNNING (R69). -/
theorem becomeRunning_updTransition {f : Transition → Transition} (ht : (s.unit u).transition = some x)
    (hp : s.currentPhase (f x) = s.currentPhase x) : (s.updTransition u f).becomeRunning u =
      (s.sendUnitCommand u (s.currentPhase x).command
        (if (s.currentPhase x).sendSetpoint then (f x).setpoint else 0) (converterByte (f x).heldConverter)
        (natByte (f x).route.val) (natByte (f x).phaseNo)).updUnit u fun r =>
          { r with
            lastSetpoint := if (s.currentPhase x).sendSetpoint then (f x).setpoint else r.lastSetpoint
            transition := some
              { f x with phaseState := .running, deadline := s.now + 100 * (s.currentPhase x).timeLimit.toNat } } := by
  have hphase : (s.updTransition u f).currentPhase (f x) = s.currentPhase x := hp
  rw [becomeRunning_eq (transition_updTransition f ht), hphase, updTransition, sendUnitCommand_updUnit, updUnit_updUnit]
  rfl

/-- A window grant (R96, R98). -/
theorem grantWindow_eq (w : WaterwayNo) (ht : (s.unit u).transition = some x) : s.grantWindow w u =
    (((s.updWaterway w fun y => { y with wait := withoutUnit u y.wait, window := .held u }).dutyEvent .waterwayGrants
      u).sendUnitCommand u (s.currentPhase x).command (if (s.currentPhase x).sendSetpoint then x.setpoint else 0)
      (converterByte x.heldConverter) (natByte x.route.val) (natByte x.phaseNo)).updUnit u fun r =>
        { r with
          lastSetpoint := if (s.currentPhase x).sendSetpoint then x.setpoint else r.lastSetpoint
          transition := some
            { x with
              heldWaterway := some w, phaseState := .running
              deadline := s.now + 100 * (s.currentPhase x).timeLimit.toNat } } := by
  set counted := (s.updWaterway w fun y => { y with wait := withoutUnit u y.wait, window := .held u }).dutyEvent
    .waterwayGrants u with hcounted
  have hplan : counted.plan = s.plan := (inert_keeps.dutyEvent (inert_keeps.refl _)).plan
  have hnow : counted.now = s.now := (inert_keeps.dutyEvent (inert_keeps.refl _)).now
  have htc : (counted.unit u).transition = some x := by rw [hcounted, unit_dutyEvent, unit_updWaterway, ht]
  have hphase : counted.currentPhase x = s.currentPhase x := currentPhase_congr hplan x
  show (counted.updTransition u fun t => { t with heldWaterway := some w }).becomeRunning u = _
  rw [becomeRunning_updTransition (f := fun t => { t with heldWaterway := some w }) htc rfl, hphase, hnow]

/-- What a converter grant does before the transition goes on: the entry leaves the list, the converter is GRANTED,
CONNECT is sent and the grant is counted (R91). -/
def connected (c : ConverterNo) (u : UnitNo) (s : State) : State :=
  (((({ s with converterWait := s.converterWait.filter fun e => e.unit ≠ u } : State).setConverter c (some u)).originate
    .unit (converterAssignTelegram c u 1)).dutyEvent .converterGrants u)

theorem unit_connected (c : ConverterNo) (v : UnitNo) : (s.connected c u).unit v = s.unit v := by
  rw [connected, unit_dutyEvent, unit_originate]
  rfl

theorem waterway_dutyEvent (e : DutyEvent) (w : WaterwayNo) : (s.dutyEvent e u).waterway w = s.waterway w := by
  rw [(Counted.dutyEvent e).eq]
  rfl

theorem waterway_connected (c : ConverterNo) (w : WaterwayNo) : (s.connected c u).waterway w = s.waterway w := by
  rw [connected, waterway_dutyEvent]
  exact congrArg (fun l : Vector Waterway 2 => l[w.val]) (originate_waterways ..)

theorem keeps_connected (c : ConverterNo) : Keeps s (s.connected c u) :=
  inert_keeps.dutyEvent (inert_keeps.sent (inert_keeps.setConverter (inert_keeps.withConverterWait
    (inert_keeps.refl s))))

theorem wantsWindow_eq (ht : (s.unit u).transition = some x) :
    s.wantsWindow u = ((s.currentPhase x).claim.hasWaterway && x.heldWaterway.isNone) := by
  unfold wantsWindow
  rw [ht]

theorem wantsWindow_connected (c : ConverterNo) (ht : (s.unit u).transition = some x) :
    ((s.connected c u).updTransition u fun t => { t with heldConverter := some c }).wantsWindow u =
      ((s.currentPhase x).claim.hasWaterway && x.heldWaterway.isNone) := by
  have htc : ((s.connected c u).unit u).transition = some x := by rw [unit_connected, ht]
  rw [wantsWindow_eq (transition_updTransition _ htc)]
  exact congrArg (fun p : Phase => p.claim.hasWaterway && x.heldWaterway.isNone)
    (currentPhase_congr (keeps_connected c).plan x)

theorem grantConverter_runs (c : ConverterNo) (ht : (s.unit u).transition = some x)
    (hw : (s.currentPhase x).claim.hasWaterway = false ∨ x.heldWaterway ≠ none) : s.grantConverter c u =
      ((s.connected c u).sendUnitCommand u (s.currentPhase x).command
        (if (s.currentPhase x).sendSetpoint then x.setpoint else 0) (natByte c.val) (natByte x.route.val)
        (natByte x.phaseNo)).updUnit u fun r =>
          { r with
            lastSetpoint := if (s.currentPhase x).sendSetpoint then x.setpoint else r.lastSetpoint
            transition := some
              { x with
                heldConverter := some c, phaseState := .running
                deadline := s.now + 100 * (s.currentPhase x).timeLimit.toNat } } := by
  have htc : ((s.connected c u).unit u).transition = some x := by rw [unit_connected, ht]
  have hwants : ((s.connected c u).updTransition u fun t => { t with heldConverter := some c }).wantsWindow u = false := by
    rw [wantsWindow_connected c ht]
    rcases hw with hw | hw
    · rw [hw, Bool.false_and]
    · rw [Option.isNone_eq_false_iff.mpr (Option.isSome_iff_ne_none.mpr hw), Bool.and_false]
  have hgrant : s.grantConverter c u =
      ((s.connected c u).updTransition u fun t => { t with heldConverter := some c }).becomeRunning u :=
    if_neg (ne_true_of_eq_false hwants)
  rw [hgrant, becomeRunning_updTransition (f := fun t => { t with heldConverter := some c }) htc rfl,
    currentPhase_congr (keeps_connected c).plan x, (keeps_connected c).now]
  rfl

theorem grantConverter_requests (c : ConverterNo) (ht : (s.unit u).transition = some x)
    (hw : (s.currentPhase x).claim.hasWaterway = true) (hh : x.heldWaterway = none) : s.grantConverter c u =
      ((s.connected c u).updUnit u fun r =>
        { r with transition := some { x with heldConverter := some c } }).requestWindow u := by
  have htc : ((s.connected c u).unit u).transition = some x := by rw [unit_connected, ht]
  have hgrant : s.grantConverter c u =
      ((s.connected c u).updTransition u fun t => { t with heldConverter := some c }).requestWindow u :=
    if_pos ((wantsWindow_connected c ht).trans (by rw [hw, hh]; rfl))
  rw [hgrant, updTransition_eq htc]

end State

/-- Settles O32: each request by what stands free; a unit that waits is placed by its rank. -/
theorem resourceRequestsAreGrantedOrWait : Obligations.ResourceRequestsAreGrantedOrWait := by
  refine ⟨fun e l => placeEntry_newest, ?converter, ?connect, ?window, ?withdraw, ?move, fun e l => placeEntry_ordered,
    ?both, ?grant⟩
  case converter =>
    intro u x s hx
    refine ⟨fun c hin hfree hlow => State.requestConverter_granted (State.freeConverter_some c hin hfree hlow), fun h => ?_⟩
    rw [State.requestConverter_waits (State.freeConverter_none h), State.waitForConverter, State.newEntry_eq hx]
  case connect =>
    intro c u x s hx p hw
    exact State.grantConverter_runs c hx hw
  case window =>
    intro u x s hx w p converter
    refine ⟨fun hf ha => ?_, fun h => ?_⟩
    · rw [State.requestWindow_granted hf ha, State.grantWindow_eq _ hx]
      rfl
    · rw [State.requestWindow_waits h, State.waitForWindow_eq _ hx]
      rfl
  case withdraw =>
    intro u s
    exact ⟨_, rfl, rfl, fun w => State.forall_waterways _ w⟩
  case move =>
    intro u k s
    exact ⟨_, rerank u k, rfl, rfl, fun w => State.forall_waterways _ w, fun l h => rerank_absent k h,
      fun e before behind he h => rerank_present k he h⟩
  case both =>
    intro c u x s hx p w hclaim hheld connected
    have hw : (s.currentPhase x).claim.hasWaterway = true := State.hasWaterway_iff.mpr hclaim
    have hrequests : s.grantConverter c u = connected.requestWindow u := State.grantConverter_requests c hx hw hheld
    refine ⟨hrequests, fun h => ?_⟩
    have hof : connected.waterwayOf u = w := congrArg (fun q => q.unitEntries[u.val].waterway) (State.keeps_connected c).plan
    have hwaterway : connected.waterway w = s.waterway w := State.waterway_connected c w
    have hx' : (connected.unit u).transition = some { x with heldConverter := some c } := by
      rw [State.unit_updUnit_self]
    rw [hrequests, State.requestWindow_waits (by rwa [hof, hwaterway]), State.unit_waitForWindow, hx']
  case grant =>
    intro w u x s hx p converter
    rw [State.grantWindow_eq w hx]
    rfl

end Sys2Proof.Machine
end

section
/-!
PROOFS. Chapter 5: the release of converters and windows (R92, R97), and the end of a settle time (R98).
-/

namespace Sys2Proof.Machine
namespace State

variable {s : State} {u : UnitNo} {x : Transition} {c : ConverterNo} {w : WaterwayNo} {e : WaitEntry}
  {rest : List WaitEntry}

/-- Converter c of unit u's transition x made FREE, with its RELEASE (R92). -/
def freed (u : UnitNo) (x : Transition) (c : ConverterNo) (s : State) : State :=
  ((s.updUnit u fun r => { r with transition := some { x with heldConverter := none } }).setConverter c none).originate
    .unit (converterAssignTelegram c u 2)

theorem converterWait_freed : (s.freed u x c).converterWait = s.converterWait := originate_converterWait ..

theorem releaseConverter_held (ht : (s.unit u).transition = some x) (hc : x.heldConverter = some c) :
    (s.converterWait = [] → s.releaseConverter u = s.freed u x c) ∧
    (∀ e rest, s.converterWait = e :: rest → s.releaseConverter u = (s.freed u x c).grantConverter c e.unit) := by
  have hfreed : ((s.updTransition u fun t => { t with heldConverter := none }).setConverter c none).sendConverterAssign c u
      2 = s.freed u x c := by
    rw [updTransition_eq ht]
    rfl
  unfold releaseConverter
  rw [ht]
  dsimp only
  rw [hc]
  dsimp only
  rw [hfreed, converterWait_freed]
  exact ⟨fun h => by rw [h], fun e rest h => by rw [h]⟩

/-- Unit u's transition x no longer holds its window (R97). -/
def windowGiven (u : UnitNo) (x : Transition) (s : State) : State :=
  s.updUnit u fun r => { r with transition := some { x with heldWaterway := none } }

theorem releaseWindow_held (ht : (s.unit u).transition = some x) (hw : x.heldWaterway = some w) :
    (s.settleTime w ≠ 0 → s.releaseWindow u = (s.windowGiven u x).updWaterway w fun y =>
      { y with window := .settling (s.now + 1000 * (s.settleTime w).toNat) }) ∧
    (s.settleTime w = 0 → s.releaseWindow u =
      ((s.windowGiven u x).updWaterway w fun y => { y with window := .free }).serveWindow w) := by
  have hgiven : s.updTransition u (fun t => { t with heldWaterway := none }) = s.windowGiven u x := updTransition_eq ht _
  have hsettle : (s.windowGiven u x).settleTime w = s.settleTime w := rfl
  unfold releaseWindow
  rw [ht]
  dsimp only
  rw [hw]
  dsimp only
  rw [hgiven, hsettle]
  exact ⟨fun h => if_neg h, fun h => if_pos h⟩

/-- A window that has become FREE is granted to the head of its wait list, if ALARM is clear (R97, R98). -/
theorem serveWindow_head (hw : (s.waterway w).wait = e :: rest) (ha : (s.waterway w).alarm = false) :
    (s.updWaterway w fun y => { y with window := .free }).serveWindow w =
      (s.updWaterway w fun y => { y with window := .free }).grantWindow w e.unit := by
  refine serveWindow_grants (rest := rest) ?_ ?_ ?_ <;> rw [waterway_updWaterway_self]
  · exact hw
  · exact ha

theorem serveWindow_stays (h : (s.waterway w).wait = [] ∨ (s.waterway w).alarm = true) :
    (s.updWaterway w fun y => { y with window := .free }).serveWindow w =
      s.updWaterway w fun y => { y with window := .free } := by
  refine serveWindow_eq_self (.inr ?_)
  rw [waterway_updWaterway_self]
  exact h

theorem settleDue_early (h : ∀ d, (s.waterway w).window = .settling d → s.now < d) : s.settleDue w = false := by
  unfold settleDue
  split
  · next d hd => exact decide_eq_false (Nat.not_le.mpr (h d hd))
  · rfl
  · rfl

theorem settleDue_due {d : Time} (hd : (s.waterway w).window = .settling d) (h : d ≤ s.now) : s.settleDue w = true := by
  unfold settleDue
  rw [hd]
  exact decide_eq_true h

theorem waterway_becomeRunning : (s.becomeRunning u).waterway w = s.waterway w := by
  cases ht : (s.unit u).transition with
  | none =>
    unfold becomeRunning
    rw [ht]
  | some x =>
    rw [becomeRunning_eq ht]
    exact congrArg (fun l : Vector Waterway 2 => l[w.val]) (originate_waterways ..)

theorem waterway_grantWindow : (s.grantWindow w u).waterway w =
    { s.waterway w with wait := withoutUnit u (s.waterway w).wait, window := .held u } := by
  unfold grantWindow
  rw [waterway_becomeRunning, updTransition, waterway_updUnit, waterway_dutyEvent, waterway_updWaterway_self]

theorem transition_grantWindow (ht : (s.unit u).transition = some x) :
    ∃ y, ((s.grantWindow w u).unit u).transition = some y ∧ y.heldWaterway = some w ∧ y.phaseState = .running := by
  rw [grantWindow_eq w ht, unit_updUnit_self]
  exact ⟨_, rfl, rfl, rfl⟩

end State

/-- Settles O33: what is released is taken by the head of the wait list, if there is one. -/
theorem releasedResourcesGoToTheHead : Obligations.ReleasedResourcesGoToTheHead := by
  refine ⟨?converter, ?window, ?settle, fun u s => ⟨State.releaseConverter_none, State.releaseWindow_none⟩⟩
  case converter =>
    intro u x c s hx hc
    exact State.releaseConverter_held hx hc
  case window =>
    intro u x w s hx hw settle given
    obtain ⟨hsettling, hfree⟩ := State.releaseWindow_held hx hw
    have hsame : (s.windowGiven u x).waterway w = s.waterway w := rfl
    refine ⟨hsettling, fun h => ⟨fun hstays => ?_, fun e rest hwait halarm => ?_⟩⟩
    · exact (hfree h).trans (State.serveWindow_stays (by rwa [hsame]))
    · exact (hfree h).trans (State.serveWindow_head (rest := rest) (by rwa [hsame]) (by rwa [hsame]))
  case settle =>
    intro w s
    have hexec : exec (.settleDeadlineReached w) s = .next (s.whenDue (s.settleDue w) (State.endSettling w)) := rfl
    refine ⟨fun h => ?_, fun d hd hdue => ?_⟩
    · rw [hexec, State.whenDue_early (State.settleDue_early h)]
    · have hends : exec (.settleDeadlineReached w) s =
          .next ((s.updWaterway w fun y => { y with window := .free }).serveWindow w) := by
        rw [hexec, State.whenDue_due (State.settleDue_due hd hdue)]
        rfl
      refine ⟨fun hstays => ?_, fun e rest hwait halarm => ?_⟩
      · rw [hends, State.serveWindow_stays hstays]
      · rw [State.serveWindow_head hwait halarm] at hends
        have hwaterway := State.waterway_grantWindow (s := s.updWaterway w fun y => { y with window := .free }) (w := w)
          (u := e.unit)
        rw [State.waterway_updWaterway_self, hwait] at hwaterway
        refine ⟨hends, _, hends, ?_, ?_, fun x hx => State.transition_grantWindow hx⟩
        · rw [hwaterway]
        · rw [hwaterway]
          exact List.filter_cons_of_neg (p := fun y : WaitEntry => y.unit ≠ e.unit) (by simp)

end Sys2Proof.Machine
end

section
/-!
PROOFS. Chapter 6: the claims that an assertion forms, and how they act (R107, R111 to R113).
-/

namespace Sys2Proof.Machine
namespace State

variable {s : State} {u : UnitNo} {line : ReserveLine} {c : ReserveClaim}

/-! ## The claim of a line for a unit (R112) -/

theorem getElem?_reserveEntry (line : ReserveLine) (u : UnitNo) :
    s.plan.reserve[8 * lineNumber line + u.val]? = some (s.reserveEntry line u) := by
  have hu := u.isLt
  cases line with
  | a =>
    rw [show 8 * lineNumber .a + u.val = u.val by simp [lineNumber]]
    exact Vector.getElem?_eq_getElem (by omega)
  | b => exact Vector.getElem?_eq_getElem (by simp only [lineNumber]; omega)

theorem available_iff {r : UnitRecord} : r.available = true ↔ r.silent = false ∧ ∃ m, r.mode = .settled m := by
  unfold UnitRecord.available
  cases r.mode <;> simp

theorem effectiveMode_settled {r : UnitRecord} {m : Mode} (h : r.mode = .settled m) :
    r.effectiveMode = some (match r.transition with
      | some x => x.target
      | none => m) := by
  unfold UnitRecord.effectiveMode
  rw [h]
  cases r.transition <;> rfl

theorem claimFor_eq_some_iff : s.claimFor line u = some c ↔
    (u.val < s.plan.station.unitCount.toNat ∧ (s.unit u).available = true) ∧
      ∃ n m, (s.reserveEntry line u).target = some n ∧ (s.unit u).effectiveMode = some m ∧
        (hasMode (s.reserveEntry line u).apply m = true ∧ m ≠ n) ∧
        ({ line := line, target := n, setpoint := (s.reserveEntry line u).setpoint } : ReserveClaim) = c := by
  have hin : s.unitInService u = true ↔ u.val < s.plan.station.unitCount.toNat := decide_eq_true_iff
  unfold claimFor
  dsimp only
  rw [← hin, ← Bool.and_eq_true]
  by_cases ha : (s.unitInService u && (s.unit u).available) = true
  · rw [if_pos ha]
    cases (s.reserveEntry line u).target <;> cases (s.unit u).effectiveMode <;> simp [ha]
  · rw [if_neg ha]
    simp [ha]

theorem claimFor_congr {t : State} (hp : t.plan = s.plan) (hu : t.units = s.units) :
    t.claimFor line u = s.claimFor line u := by
  have hentry : t.reserveEntry line u = s.reserveEntry line u := by cases line <;> simp only [reserveEntry, hp]
  have hunit : t.unit u = s.unit u := by simp only [unit, hu]
  exact Option.ext fun c => by rw [claimFor_eq_some_iff, claimFor_eq_some_iff, hentry, hunit, hp]

end State

/-- Settles O35: the claims of a line are those of the available units whose entry applies. -/
theorem reserveClaimFormation : Obligations.ReserveClaimFormation := by
  intro line u c s e
  rw [State.claimFor_eq_some_iff, State.available_iff, show e = _ from State.getElem?_reserveEntry line u]
  constructor
  · rintro ⟨⟨hin, hsilent, m, hm⟩, n, k, hn, hk, ⟨happly, hne⟩, rfl⟩
    rw [State.effectiveMode_settled hm] at hk
    exact ⟨hin, hsilent, rfl, _, m, k, rfl, hm, (Option.some.inj hk).symm, hn, rfl, happly, hne⟩
  · rintro ⟨hin, hsilent, hline, entry, m, k, hentry, hm, hk, hn, hsp, happly, hne⟩
    obtain rfl := Option.some.inj hentry
    refine ⟨⟨hin, hsilent, m, hm⟩, c.target, k, hn, ?_, ⟨happly, hne⟩, ?_⟩
    · exact (State.effectiveMode_settled hm).trans (congrArg some hk.symm)
    · rw [← hsp, ← hline]

namespace State

variable {s : State} {u : UnitNo} {line : ReserveLine} {c : ReserveClaim} {x : Transition}

/-! ## Forming a claim (R112) -/

theorem supersedeReserve_none (h : (s.unit u).reserveClaim = none) : s.supersedeReserve u = s := by
  unfold supersedeReserve
  rw [h]

theorem supersedeReserve_some {old : ReserveClaim} (h : (s.unit u).reserveClaim = some old) : s.supersedeReserve u =
    ((s.updUnit u fun r => { r with reserveClaim := none }).clearCut u .reserve
      (natHalf (lineNumber old.line))).sendStatus (natHalf (lineNumber old.line)) .superseded .none (unitByte u)
      (modeCode old.target) .reserve := by
  unfold supersedeReserve
  rw [h]
  rfl

theorem orders_supersedeReserve : (s.supersedeReserve u).orders = s.orders := by
  cases h : (s.unit u).reserveClaim with
  | none => rw [supersedeReserve_none h]
  | some old =>
    rw [supersedeReserve_some h]
    exact originate_orders ..

theorem supersedeQueued_one {o : Order} (h : s.orders.filter (fun q => decide (q.target = .unit u)) = [o]) :
    s.supersedeQueued u =
      (({ s with orders := s.orders.filter fun q => decide (q.target ≠ .unit u) } : State).clearCut u o.origin
        o.tag).sendStatus o.tag .superseded .none (unitByte u) (modeCode o.mode) o.origin := by
  have hfor : o.target = .unit u := of_decide_eq_true
    (List.mem_filter.mp (h ▸ List.mem_singleton_self o : o ∈ s.orders.filter fun q => decide (q.target = .unit u))).2
  have hgone : s.orders.filter (fun q => q.isFor u) = [o] := h
  have hkept : s.orders.filter (fun q => !q.isFor u) = s.orders.filter fun q => decide (q.target ≠ .unit u) :=
    List.filter_congr fun q _ => by simp [Order.isFor]
  unfold supersedeQueued
  dsimp only
  rw [hgone, hkept]
  show State.sendOrderStatus o .superseded .none _ = _
  rw [sendOrderStatus, hfor]
  rfl

theorem formClaim_fresh (hr : (s.unit u).reserveClaim = none) (ho : ∀ o ∈ s.orders, o.target ≠ .unit u) :
    s.formClaim u c = s.updUnit u fun r => { r with reserveClaim := some c } := by
  rw [formClaim, supersedeReserve_none hr, supersedeQueued_of_none ho]

/-! ## How a claim acts (R113) -/

theorem rank_le_reserve (o : Origin) : ¬ rank .reserve < rank o := by cases o <;> decide

theorem actOn_running (ht : (s.unit u).transition = some x) (hne : c.target ≠ x.target) (hp : x.phaseState = .running) :
    s.actOn u c.claim = s.updUnit u fun r =>
      { r with transition := some { x with cut := some { origin := .reserve, tag := natHalf (lineNumber c.line) } } } := by
  rw [actOn_moving ht, offer_running (by exact rank_le_reserve _) (by exact hne) hp, updTransition_eq ht]
  rfl

theorem actOn_waiting (ht : (s.unit u).transition = some x) (hne : c.target ≠ x.target) (hp : x.phaseState = .waiting) :
    s.actOn u c.claim = (s.endTransition u .cut .none false).startAttempt u := by
  rw [actOn_moving ht, offer_waiting (by exact rank_le_reserve _) (by exact hne) hp]

/-! ## An assertion event (R107, R111) -/

/-- A line whose debounced level has become asserted, with RESERVE_SEEN (R111). -/
def lineSeen (line : ReserveLine) (s : State) : State :=
  (s.setReserveLine line true).updReserveLine line fun _ => { level := true, seen := true, debounce := none }

theorem setReserveLine_eq (line : ReserveLine) (b : Bool) : s.setReserveLine line b =
    { s with lines := match line with
      | .a => { s.lines with reserveA := b }
      | .b => { s.lines with reserveB := b } } := by
  cases line <;> rfl

theorem reserveLine_setReserveLine (line l : ReserveLine) (b : Bool) :
    (s.setReserveLine line b).reserveLine l = s.reserveLine l := by
  cases line <;> cases l <;> rfl

theorem updReserveLine_congr {f g : ReserveState → ReserveState} (h : f (s.reserveLine line) = g (s.reserveLine line)) :
    s.updReserveLine line f = s.updReserveLine line g := by
  cases line with
  | a => exact congrArg (fun x => { s with reserveA := x }) h
  | b => exact congrArg (fun x => { s with reserveB := x }) h

theorem updReserveLine_updReserveLine (f g : ReserveState → ReserveState) :
    (s.updReserveLine line f).updReserveLine line g = s.updReserveLine line fun x => g (f x) := by
  cases line <;> rfl

theorem lineAsserts_again (h : (s.reserveLine line).level = true) : s.lineAsserts line =
    (s.setReserveLine line true).updReserveLine line fun x => { x with debounce := none } := by
  refine (if_pos h).trans (updReserveLine_congr ?_)
  rw [reserveLine_setReserveLine]
  exact congrArg (fun b => { s.reserveLine line with level := b, debounce := none }) h.symm

theorem lineAsserts_event (h : (s.reserveLine line).level = false) : s.lineAsserts line = (s.lineSeen line).assertLine line := by
  refine (if_neg (by simp [h])).trans ?_
  rw [updReserveLine_updReserveLine]
  rfl

theorem units_lineSeen : (s.lineSeen line).units = s.units := by cases line <;> rfl
theorem plan_lineSeen : (s.lineSeen line).plan = s.plan := by cases line <;> rfl
theorem orders_lineSeen : (s.lineSeen line).orders = s.orders := by cases line <;> rfl
theorem dispatcher_lineSeen : (s.lineSeen line).dispatcher = s.dispatcher := by cases line <;> rfl
theorem now_lineSeen : (s.lineSeen line).now = s.now := by cases line <;> rfl

theorem unit_lineSeen (u : UnitNo) : (s.lineSeen line).unit u = s.unit u := by simp only [unit, units_lineSeen]

theorem claimsOf_lineSeen (line' : ReserveLine) : (s.lineSeen line).claimsOf line' = s.claimsOf line' := by
  unfold claimsOf
  exact congrArg (fun f => unitNumbers.filterMap f)
    (funext fun u => by rw [claimFor_congr plan_lineSeen units_lineSeen])

theorem assertLine_unplanned (h : s.dispatcher = .unplanned) :
    s.assertLine line = s.sendAlert .reserveIgnored (natByte (lineNumber line)) 0 := if_pos h

theorem assertLine_planned (h : s.dispatcher ≠ .unplanned) : s.assertLine line =
    (((s.formClaims (s.claimsOf line)).sendAlert .reserve (natByte (lineNumber line))
      (natHalf (s.claimsOf line).length)).actOnClaims (s.claimsOf line)).drainCheck := if_neg h

theorem claimsOf_nil (h : ∀ u, s.claimFor line u = none) : s.claimsOf line = [] := by
  unfold claimsOf
  rw [List.filterMap_eq_nil_iff]
  exact fun u _ => by rw [h u]; rfl

theorem claimsOf_single (h : s.claimFor line u = some c) (ho : ∀ v, v ≠ u → s.claimFor line v = none) :
    s.claimsOf line = [(u, c)] := by
  obtain ⟨before, behind, hl⟩ := List.append_of_mem (mem_unitNumbers u)
  have hnodup := unitNumbers_nodup
  rw [hl] at hnodup
  have hu : u ∉ before ∧ u ∉ behind := by
    simp only [List.nodup_append, List.nodup_cons] at hnodup
    exact ⟨fun hb => hnodup.2.2 u hb u (List.mem_cons_self) rfl, hnodup.2.1.1⟩
  have hnone : ∀ l : List UnitNo, u ∉ l → l.filterMap (fun v => (s.claimFor line v).map fun c => (v, c)) = [] :=
    fun l hul => List.filterMap_eq_nil_iff.mpr fun v hv => by
      rw [ho v fun e => hul (e ▸ hv)]
      rfl
  unfold claimsOf
  rw [hl, List.filterMap_append, hnone before hu.1, List.nil_append, List.filterMap_cons, h, hnone behind hu.2]
  rfl

theorem calm_lineSeen : Calm s (s.lineSeen line) := by
  have hset : Calm s (s.setReserveLine line true) := by cases line <;> exact calm_fields
  exact hset.trans (calm_updReserveLine line _)

/-- A phase that claims nothing runs at once, with its command sent (R67, R69). -/
theorem phaseStart_set {y : Transition} {k : Nat} (h : (s.phaseAt y.route k).claim = .none) :
    (s.updUnit u fun r => { r with transition := some y }).phaseStart u k =
      (s.sendUnitCommand u (s.phaseAt y.route k).command (if (s.phaseAt y.route k).sendSetpoint then y.setpoint else 0)
        (converterByte y.heldConverter) (natByte y.route.val) (natByte k)).updUnit u fun r =>
          { r with
            lastSetpoint := if (s.phaseAt y.route k).sendSetpoint then y.setpoint else r.lastSetpoint
            transition := some
              { y with
                phaseNo := k, retriesUsed := 0, phaseState := .running
                deadline := s.now + 100 * (s.phaseAt y.route k).timeLimit.toNat } } := by
  have hty : ((s.updUnit u fun r => { r with transition := some y }).unit u).transition = some y := by
    rw [unit_updUnit_self]
  have hphase : (s.updUnit u fun r => { r with transition := some y }).phaseAt y.route k = s.phaseAt y.route k := rfl
  have hclaim : ∀ {a b : Resources} {p : Prop}, a ≠ .none → b ≠ .none →
      ¬ (((s.phaseAt y.route k).claim = a ∨ (s.phaseAt y.route k).claim = b) ∧ p) := by
    rintro a b p ha hb ⟨h' | h', _⟩
    · exact ha (h'.symm.trans h)
    · exact hb (h'.symm.trans h)
  obtain ⟨_, hrest⟩ := phaseStart_eq (k := k) hty
  rw [hphase] at hrest
  rw [(hrest (hclaim nofun nofun)).2 (hclaim nofun nofun), phaseRunning, hphase, sendUnitCommand_updUnit, updUnit_updUnit]
  rfl

/-- The claim of a unit at rest starts its transition, and nothing else is left to do (R53, R55, R113). -/
theorem startAttempt_reserve {m : Mode} {r : Fin 32} (hrest : s.AtRest u m) (hr : (s.unit u).reserveClaim = none)
    (ho : s.orders = []) (hne : c.target ≠ m) (hroute : s.lookupRoute u m c.target = some r) :
    (s.updUnit u fun x => { x with reserveClaim := some c }).startAttempt u =
      ((s.sendStatus (natHalf (lineNumber c.line)) .started .none (unitByte u) (modeCode c.target) .reserve).updUnit u
        fun x => { x with transition := some (newTransition u m r c.claim s.now) }).phaseStart u 1 := by
  set a := s.updUnit u fun x => { x with reserveClaim := some c } with ha
  have hua : a.unit u = { s.unit u with reserveClaim := some c } := by rw [ha, unit_updUnit_self]
  have hresta : a.AtRest u m := ⟨hrest.inService, by rw [hua]; exact hrest.mode, by rw [hua]; exact hrest.silent,
    by rw [hua]; exact hrest.transition⟩
  have hleft : a.removeClaim u .reserve = s := by
    show (a.updUnit u fun x => { x with reserveClaim := none }) = s
    rw [ha, updUnit_updUnit]
    exact updUnit_eq_self (by rw [← hr])
  have horders : (a.startClaim u m r .reserve c.claim).orders = [] := by rw [orders_startClaim, hleft, ho]
  rw [((startAttempt_takes hresta (takenClaim_reserve (by rw [hua]))).2 hne).2 r hroute, poolPass_of_nil horders,
    startClaim_eq, hleft]
  rfl

end State

/-- Settles O36: the claims are formed, announced and acted on, each by what waits for its unit. -/
theorem assertionEventActsOnItsClaims : Obligations.AssertionEventActsOnItsClaims := by
  have hset : ∀ (line : ReserveLine) (b : Bool) (s : State), ({ s with lines := match line with
      | .a => { s.lines with reserveA := b }
      | .b => { s.lines with reserveB := b } } : State) = s.setReserveLine line b :=
    fun line b s => (State.setReserveLine_eq line b).symm
  have hevent : ∀ (line : ReserveLine) (s : State), (s.reserveLine line).level = false → s.dispatcher ≠ .unplanned →
      exec (.assertionEvent line) s =
        .next (((((s.lineSeen line).formClaims (s.claimsOf line)).sendAlert .reserve (natByte (lineNumber line))
          (natHalf (s.claimsOf line).length)).actOnClaims (s.claimsOf line)).drainCheck) := by
    intro line s hl hd
    have hasserts := State.assertLine_planned (line := line) (s := s.lineSeen line) (by rwa [State.dispatcher_lineSeen])
    rw [State.claimsOf_lineSeen] at hasserts
    exact congrArg Host.Outcome.next ((State.lineAsserts_event hl).trans hasserts)
  refine ⟨?alone, ?one, ?release, ?general, ?forms, ?acts⟩
  case alone =>
    intro line s hs lined
    have hlined : lined = s.setReserveLine line true := hset line true s
    refine ⟨fun hl => ?_, fun hl => ?_⟩
    · rw [hlined]
      exact congrArg Host.Outcome.next (State.lineAsserts_again hl)
    · intro seen
      have hseen : seen = s.lineSeen line := congrArg (fun t : State => t.updReserveLine line fun _ =>
        { level := true, seen := true, debounce := none }) hlined
      rw [hseen]
      refine ⟨fun hd => ?_, fun hd hnone => ?_⟩
      · exact congrArg Host.Outcome.next ((State.lineAsserts_event hl).trans
          (State.assertLine_unplanned (State.dispatcher_lineSeen.trans hd)))
      · rw [hevent line s hl hd, State.claimsOf_nil hnone]
        refine congrArg Host.Outcome.next (State.drainCheck_of_sound ?_)
        exact (State.calm_lineSeen.trans (State.calm_originate _)).dispatcherStateSound hs
  case one =>
    intro line u m c s hd hl ho hr hm hc hothers lined alerted number
    obtain ⟨⟨hin, havailable⟩, n, k, _, hk, ⟨_, hne⟩, hcn⟩ := State.claimFor_eq_some_iff.mp hc
    have htarget : c.target = n := by rw [← hcn]
    have hnumber : number = natHalf (lineNumber c.line) := by rw [← hcn]
    clear_value number
    subst hnumber
    have halerted : (s.lineSeen line).sendAlert .reserve (natByte (lineNumber line)) 1 = alerted :=
      congrArg (fun t : State => (t.updReserveLine line fun _ =>
        { level := true, seen := true, debounce := none }).sendAlert .reserve (natByte (lineNumber line)) 1)
        (hset line true s).symm
    clear_value alerted
    have hua : alerted.unit u = s.unit u := by rw [← halerted, State.unit_sendAlert, State.unit_lineSeen]
    have hplan : alerted.plan = s.plan := by
      rw [← halerted]
      exact (State.originate_plan ..).trans State.plan_lineSeen
    have horders : alerted.orders = [] := by
      rw [← halerted]
      exact (State.originate_orders ..).trans (State.orders_lineSeen.trans ho)
    have hnow : alerted.now = s.now := by
      rw [← halerted]
      exact (State.originate_now ..).trans State.now_lineSeen
    have hexec : exec (.assertionEvent line) s =
        .next (((alerted.updUnit u fun r => { r with reserveClaim := some c }).actOn u c.claim).drainCheck) := by
      have hformed : (s.lineSeen line).formClaims [(u, c)] =
          (s.lineSeen line).updUnit u fun r => { r with reserveClaim := some c } :=
        State.formClaim_fresh (by rw [State.unit_lineSeen, hr]) (by rw [State.orders_lineSeen, ho]; exact nofun)
      rw [hevent line s hl hd, State.claimsOf_single hc hothers, hformed, State.sendAlert, State.originate_updUnit]
      exact congrArg (fun t : State => Host.Outcome.next
        ((t.updUnit u fun r => { r with reserveClaim := some c }).actOn u c.claim).drainCheck) halerted
    refine ⟨fun x hx hrun => ?_, fun r hx hroute => ?_⟩
    · have hxc : ((alerted.updUnit u fun r => { r with reserveClaim := some c }).unit u).transition = some x := by
        rw [State.unit_updUnit_self, hua, hx]
      have hnc : c.target ≠ x.target := by
        have heff : k = x.target := by
          have := (State.effectiveMode_settled hm).symm.trans hk
          rw [hx] at this
          exact (Option.some.inj this).symm
        rw [htarget, ← heff]
        exact Ne.symm hne
      rw [hexec, State.actOn_running hxc hnc hrun, State.updUnit_updUnit, State.drainCheck_of_left (u := u)]
      rw [State.unit_updUnit_self]
      exact .inl nofun
    · intro p hp
      obtain ⟨hsilent, _⟩ := State.available_iff.mp havailable
      have hrest : alerted.AtRest u m := ⟨by rwa [hplan], by rwa [hua], by rwa [hua], by rwa [hua]⟩
      have hcm : c.target ≠ m := by
        have heff : k = m := by
          have := (State.effectiveMode_settled hm).symm.trans hk
          rw [hx] at this
          exact (Option.some.inj this).symm
        rw [htarget, ← heff]
        exact Ne.symm hne
      set started := alerted.sendStatus (natHalf (lineNumber c.line)) .started .none (unitByte u) (modeCode c.target) .reserve with hstarted
      have hphase : started.phaseAt r 1 = p :=
        (State.phaseAt_congr ((State.originate_plan ..).trans hplan) r 1).trans (State.phaseAt_one r)
      have hstart := State.phaseStart_set (s := started) (u := u) (k := 1)
        (y := State.newTransition u m r c.claim alerted.now) (by exact hphase ▸ hp)
      have hphase' : started.phaseAt (State.newTransition u m r c.claim alerted.now).route 1 = p := hphase
      have hnow' : started.now = s.now := (State.originate_now ..).trans hnow
      rw [hphase', hnow'] at hstart
      rw [hexec, State.actOn_rest (by rw [State.unit_updUnit_self, hua, hx]),
        State.startAttempt_reserve hrest (by rw [hua, hr]) horders hcm
          ((State.lookupRoute_congr hplan ..).trans hroute), hstart, State.drainCheck_of_left (u := u)]
      · rfl
      · rw [State.unit_updUnit_self]
        exact .inl nofun
  case release =>
    intro line s lined
    have hlined : lined = s.setReserveLine line false := hset line false s
    rw [hlined]
    rfl
  case general =>
    intro line s hd hl lined seen claimed alerted
    have hseen : seen = s.lineSeen line := congrArg (fun t : State => t.updReserveLine line fun _ =>
      { level := true, seen := true, debounce := none }) (hset line true s)
    rw [hevent line s hl hd, ← hseen]
    rfl
  case forms =>
    intro u c s uncut freed formed
    have hfreed : s.supersedeReserve u = freed := by
      cases h : (s.unit u).reserveClaim with
      | none => simp only [freed, h, State.supersedeReserve_none h]
      | some old =>
        simp only [freed, h, State.supersedeReserve_some h]
        rfl
    have horders : freed.orders = s.orders := by rw [← hfreed, State.orders_supersedeReserve]
    refine ⟨fun hnone => ?_, fun o hone => ?_⟩
    · show s.formClaim u c = _
      rw [State.formClaim, hfreed, State.supersedeQueued_of_none (by rwa [horders])]
    · show s.formClaim u c = _
      rw [State.formClaim, hfreed, State.supersedeQueued_one (by rwa [horders]), horders]
      rfl
  case acts =>
    intro u c s
    exact ⟨fun h => State.actOn_rest h, fun x hx hne => ⟨State.actOn_running hx hne, State.actOn_waiting hx hne⟩⟩

end Sys2Proof.Machine
end

section
/-!
PROOFS. Chapter 7: master silence (R123), and the rows of the schedule program (R48, R131, R132).
-/

namespace Sys2Proof.Machine
namespace State

variable {s : State} {u : UnitNo} {leaves : Order → Bool} {reason : Reason} {a : Arrival} {o : Order}

/-! ## Withdrawals (R59, R60) -/

theorem orders_withdrawOrders : (s.withdrawOrders leaves reason).orders = s.orders.filter fun o => !leaves o :=
  (Calm.foldl (fun _ o => (calm_clearCutOf o).trans (calm_originate _)) _ _).orders

theorem mem_withdrawAndAttempt (h : o ∈ (s.withdrawAndAttempt leaves reason).orders) : o ∈ s.orders ∧ leaves o = false := by
  have hattempts : Moves false (s.withdrawOrders leaves reason) (s.withdrawAndAttempt leaves reason) :=
    Moves.foldl (fun _ _ => moves_startAttempt) _ _
  have hmem := hattempts.orders_sublist.1.subset h
  rw [orders_withdrawOrders, List.mem_filter] at hmem
  exact ⟨hmem.1, by simpa using hmem.2⟩

theorem withdrawAndAttempt_none (ho : s.orders = []) : s.withdrawAndAttempt leaves reason = s := by
  unfold withdrawAndAttempt withdrawOrders attemptsAfterWithdrawal
  dsimp only
  rw [ho]
  simp only [List.filter_nil, List.foldl_nil, List.any_nil]
  rw [← ho]
  simp

/-! ## What a new arrival puts in the queue (R46, R47) -/

theorem mem_actOn {c : Claim} (h : o ∈ (s.actOn u c).orders) : o ∈ s.orders :=
  (moves_actOn (b := false) c).orders_sublist.1.subset h

theorem mem_supersedeFor {t : Target} (h : o ∈ (s.supersedeFor t).orders) : o ∈ s.orders :=
  (moves_supersedeFor (b := false) t).orders_sublist.1.subset h

theorem mem_acceptArrival (h : o ∈ (s.acceptArrival a).orders) : o ∈ s.orders ∨ o = orderRecord a s.ageCount := by
  have hmem : o ∈ (s.accepted a).orders := by
    cases ht : a.target with
    | unit u =>
      rw [acceptArrival_unit ht] at h
      exact mem_actOn h
    | pool p =>
      rw [acceptArrival_pool ht] at h
      exact (moves_poolPass (b := false)).orders_sublist.1.subset h
  rw [orders_accepted, List.mem_append, List.mem_singleton] at hmem
  exact hmem

theorem mem_queueOrder (h : o ∈ (s.queueOrder a).orders) : o ∈ s.orders ∨ o.origin = a.claim.origin := by
  have hrefused : ∀ (t : State) (r : Reason), (t.refuseArrival a r).orders = t.orders := fun t r => originate_orders ..
  unfold queueOrder at h
  split at h
  · rw [hrefused] at h
    exact .inl h
  · split at h
    · rw [hrefused] at h
      exact .inl h
    · dsimp only at h
      split at h
      · rw [hrefused] at h
        exact .inl (mem_supersedeFor h)
      · rcases mem_acceptArrival h with h | h
        · exact .inl (mem_supersedeFor h)
        · exact .inr (congrArg Order.origin h)

theorem mem_scheduleClaims {r : Byte} {row : Row} (h : o ∈ (s.scheduleClaims r row).orders) :
    o ∈ s.orders ∨ o.origin = .schedule := by
  unfold scheduleClaims at h
  generalize unitNumbers = us at h
  induction us generalizing s with
  | nil => exact .inl h
  | cons u us ih =>
    rcases ih h with h | h
    · unfold scheduleClaim at h
      split at h
      · split at h
        · exact mem_queueOrder h
        · exact .inl h
      · exact .inl h
    · exact .inr h

/-! ## Master silence (R123) -/

/-- The dispatcher AUTONOMOUS by master silence, before the withdrawal of R123. -/
def silenceDue (s : State) : State :=
  { s with dispatcher := .autonomous, masterSilenceSeen := true, masterDeadline := none }

/-- The DISPATCH orders withdrawn and the alert sent (R123). -/
def silenced (s : State) : State :=
  (s.silenceDue.withdrawAndAttempt (fun o => o.origin = .dispatch) .masterSilent).sendAlert .masterSilent
    (natByte (s.orders.filter fun o => decide (o.origin = .dispatch)).length) 1

theorem keeps_silenced : Keeps s.silenceDue s.silenced :=
  inert_keeps.sendAlert (inert_keeps.withdrawAndAttempt (inert_keeps.refl _))

/-- The schedule claims of the current row's captured content, while the program is RUNNING (R123). -/
def rowHanded (s : State) : State :=
  if s.program.running then
    match s.program.captured with
    | some row => s.scheduleClaims s.program.currentRow row
    | none => s
  else s

theorem fallSilent_eq : s.fallSilent = s.silenced.rowHanded := rfl

theorem rowHanded_alone (h : s.program.running = false ∨ s.program.captured = none) : s.rowHanded = s := by
  unfold rowHanded
  rcases h with h | h
  · rw [h, if_neg Bool.false_ne_true]
  · rw [h]
    exact ite_self _

theorem rowHanded_hands {row : Row} (hc : s.program.captured = some row) (hr : s.program.running = true) :
    s.rowHanded = s.scheduleClaims s.program.currentRow row := by
  unfold rowHanded
  rw [if_pos hr, hc]

theorem program_silenced : s.silenced.program = s.program := keeps_silenced.program

theorem fallSilent_alone (h : s.program.running = false ∨ s.program.captured = none) : s.fallSilent = s.silenced := by
  rw [fallSilent_eq, rowHanded_alone (by rwa [program_silenced])]

theorem fallSilent_hands {row : Row} (hc : s.program.captured = some row) (hr : s.program.running = true) :
    s.fallSilent = s.silenced.scheduleClaims s.program.currentRow row := by
  rw [fallSilent_eq, rowHanded_hands (by rwa [program_silenced]) (by rwa [program_silenced]), program_silenced]

theorem masterDue_early (h : s.dispatcher ≠ .directed ∨ ∀ d, s.masterDeadline = some d → s.now < d) :
    s.masterDue = false := by
  unfold masterDue
  rcases h with h | h
  · simp [h]
  · rw [not_reached h, Bool.and_false]

theorem masterDue_due {d : Time} (hd : s.dispatcher = .directed) (hm : s.masterDeadline = some d) (h : d ≤ s.now) :
    s.masterDue = true := by
  unfold masterDue
  rw [reached_of_le hm h]
  simp [hd]

theorem silenced_none (ho : s.orders = []) : s.silenced = s.silenceDue.sendAlert .masterSilent 0 1 := by
  unfold silenced
  rw [withdrawAndAttempt_none (by exact ho), ho]
  rfl

/-- Whatever follows the silence keeps what R123 sets, and brings in no DISPATCH order. -/
theorem fallSilent_sets : Keeps s.silenceDue s.fallSilent ∧ ∀ o ∈ s.fallSilent.orders, o.origin ≠ .dispatch := by
  have hgone : ∀ o ∈ s.silenced.orders, o.origin ≠ .dispatch := by
    intro o ho
    rw [silenced, sendAlert, originate_orders] at ho
    exact of_decide_eq_false (mem_withdrawAndAttempt ho).2
  cases hc : s.program.captured with
  | none =>
    rw [fallSilent_alone (.inr hc)]
    exact ⟨keeps_silenced, hgone⟩
  | some row =>
    cases hr : s.program.running with
    | false =>
      rw [fallSilent_alone (.inl hr)]
      exact ⟨keeps_silenced, hgone⟩
    | true =>
      rw [fallSilent_hands hc hr]
      refine ⟨inert_keeps.scheduleClaims keeps_silenced, fun o ho => ?_⟩
      rcases mem_scheduleClaims ho with h | h
      · exact hgone o h
      · rw [h]
        exact nofun

end State

/-- Settles O37: the state of R123 with its withdrawals, kept by the claims that follow. -/
theorem masterSilenceMakesTheDispatcherAutonomous : Obligations.MasterSilenceMakesTheDispatcherAutonomous := by
  intro s
  have hexec : exec .masterSilenceExpiry s = .next (s.whenDue s.masterDue State.fallSilent) := rfl
  refine ⟨fun h => ?_, fun d hd hm hdue => ?_⟩
  · rw [hexec, State.whenDue_early (State.masterDue_early h)]
  · rw [State.whenDue_due (State.masterDue_due hd hm hdue)] at hexec
    refine ⟨⟨_, hexec, ?_⟩, fun ho hr => ?_, ?_⟩
    · obtain ⟨hkeeps, hgone⟩ := State.fallSilent_sets (s := s)
      exact ⟨hkeeps.dispatcher, hkeeps.masterSilenceSeen, hkeeps.masterDeadline, hkeeps.program, hgone⟩
    · rw [hexec, State.fallSilent_alone (.inl hr), State.silenced_none ho]
      rfl
    · intro due gone leave withdrawn attempted alerted
      have hleave : ∀ t : State, ∀ o ∈ gone, (t.clearCutOf o).sendOrderStatus o .withdrawn .masterSilent = leave t o := by
        intro t o ho
        have horigin : o.origin = .dispatch := of_decide_eq_true (List.mem_filter.mp ho).2
        simp only [leave, State.clearCutOf, State.sendOrderStatus, horigin]
        cases o.target <;> rfl
      have hkept : s.orders.filter (fun o => !decide (o.origin = .dispatch)) =
          s.orders.filter fun o => decide (o.origin ≠ .dispatch) := List.filter_congr fun o _ => by simp
      have hwithdrawn : due.withdrawOrders (fun o => o.origin = .dispatch) .masterSilent = withdrawn := by
        have hfold := List.foldl_ext _ leave
          ({ due with orders := s.orders.filter fun o => !decide (o.origin = .dispatch) } : State) hleave
        rw [hkept] at hfold
        unfold State.withdrawOrders
        dsimp only
        rw [show due.orders = s.orders from rfl, hkept]
        exact hfold
      have halerted : s.silenced = alerted := by
        unfold State.silenced State.withdrawAndAttempt
        rw [show s.silenceDue = due from rfl, hwithdrawn]
        rfl
      rw [hexec, ← halerted]
      refine ⟨fun h => ?_, fun row hc hr => ?_, fun row hc hr ho => ?_⟩
      · rw [State.fallSilent_alone h]
      · rw [State.fallSilent_hands hc hr]
      · rw [State.fallSilent_hands hc hr, State.silenced_none ho]
        rfl

end Sys2Proof.Machine
end

section
/-!
PROOFS. Chapter 7: the rows of the schedule program (R128, R131, R132) and the claims they hand (R48).
-/

namespace Sys2Proof.Machine
namespace State

variable {s : State} {u : UnitNo} {r : Byte} {row : Row}

/-! ## The program (R128, R131, R132) -/

theorem eq_lastRow_iff (run : Run) (r : Byte) :
    r = lastRow run ↔ r.toNat = (run.start.toNat + run.length.toNat + 255) % 256 := by
  rw [← BitVec.toNat_inj]
  have hone : (1 : Byte).toNat = 1 := rfl
  simp only [lastRow, BitVec.toNat_sub, BitVec.toNat_add, BitVec.toNat_setWidth, hone]
  omega

theorem rowDue_early (h : s.program.running = false ∨ ∀ d, s.program.rowDeadline = some d → s.now < d) :
    s.rowDue = false := by
  unfold rowDue
  rcases h with h | h
  · rw [h, Bool.false_and]
  · rw [not_reached h, Bool.and_false]

theorem rowDue_due {d : Time} (hr : s.program.running = true) (hd : s.program.rowDeadline = some d) (h : d ≤ s.now) :
    s.rowDue = true := by
  unfold rowDue
  rw [hr, reached_of_le hd h, Bool.and_true]

/-- The program in row r of a run, captured and timed, with no run pending (R131). -/
def rowBegun (s : State) (run : Run) (r : Byte) : Program :=
  { running := true, run := run, currentRow := r
    rowDeadline := some (s.now + 60000 * (s.schedule[r.toNat]).duration.toNat)
    captured := some s.schedule[r.toNat], pendingRun := none }

/-- Row r of a run begins: it is captured and timed, and in AUTONOMOUS it hands its claims (R131). -/
def rowBegins (s : State) (run : Run) (r : Byte) : State :=
  if s.dispatcher = .autonomous then
    ({ s with program := s.rowBegun run r } : State).scheduleClaims r s.schedule[r.toNat]
  else { s with program := s.rowBegun run r }

theorem beginRow_eq (hr : s.program.running = true) (hp : s.program.pendingRun = none) :
    s.beginRow r = s.rowBegins s.program.run r := by
  have hcapture : s.captureRow r = { s with program := s.rowBegun s.program.run r } := by
    unfold captureRow
    dsimp only
    rw [hr, hp]
    rfl
  unfold beginRow
  dsimp only
  rw [hcapture]
  rfl

theorem program_rowBegins (run : Run) : (s.rowBegins run r).program = s.rowBegun run r := by
  unfold rowBegins
  split
  · exact (inert_keeps.scheduleClaims (inert_keeps.refl _)).program
  · rfl

theorem endRow_pending {run : Run} (hr : s.program.running = true) (h : s.program.pendingRun = some run) :
    s.endRow = s.rowBegins run run.start := by
  unfold endRow
  rw [h]
  exact beginRow_eq (s := { s with program := { s.program with run, pendingRun := none } }) hr rfl

theorem endRow_next (hr : s.program.running = true) (h : s.program.pendingRun = none)
    (hl : s.program.currentRow ≠ lastRow s.program.run) :
    s.endRow = s.rowBegins s.program.run (s.program.currentRow + 1) := by
  unfold endRow
  rw [h]
  exact (if_pos hl).trans (beginRow_eq hr h)

theorem endRow_loops (hr : s.program.running = true) (h : s.program.pendingRun = none)
    (hl : s.program.currentRow = lastRow s.program.run) (hloop : s.program.run.loop = true) :
    s.endRow = s.rowBegins s.program.run s.program.run.start := by
  unfold endRow
  rw [h]
  exact (if_neg fun hne => hne hl).trans ((if_pos hloop).trans (beginRow_eq hr h))

theorem endRow_stops (h : s.program.pendingRun = none) (hl : s.program.currentRow = lastRow s.program.run)
    (hloop : s.program.run.loop = false) : s.endRow = s.stopProgram := by
  unfold endRow
  rw [h]
  exact (if_neg fun hne => hne hl).trans (if_neg (by simp [hloop]))

/-! ## Schedule claims (R48, R131) -/

theorem scheduleClaim_keep (h : row.entries[u.val].mode = none) : scheduleClaim r row s u = s := by
  unfold scheduleClaim
  rw [h]
  exact ite_self _

theorem scheduleClaim_outOfService (h : s.plan.station.unitCount.toNat ≤ u.val) : scheduleClaim r row s u = s :=
  if_neg (by simpa [unitInService] using h)

theorem scheduleClaim_hands {n : Mode} (hin : u.val < s.plan.station.unitCount.toNat)
    (h : row.entries[u.val].mode = some n) : scheduleClaim r row s u =
      s.queueOrder (scheduleArrival r u n row.entries[u.val].setpoint) := by
  unfold scheduleClaim
  rw [if_pos (by simpa [unitInService] using hin), h]

theorem foldl_scheduleClaim_keep {us : List UnitNo} (h : ∀ u ∈ us, scheduleClaim r row s u = s) :
    us.foldl (scheduleClaim r row) s = s := by
  induction us with
  | nil => rfl
  | cons u us ih =>
    rw [List.foldl_cons, h u List.mem_cons_self]
    exact ih fun v hv => h v (List.mem_cons_of_mem u hv)

/-- The units in service are those of the plan, which no claim changes. -/
theorem foldl_scheduleClaim {g : State → UnitNo → State} {count : Nat}
    (hg : ∀ t u, t.plan.station.unitCount.toNat = count → u.val < count → scheduleClaim r row t u = g t u)
    (us : List UnitNo) (hs : s.plan.station.unitCount.toNat = count) :
    us.foldl (scheduleClaim r row) s = (us.filter fun u => decide (u.val < count)).foldl g s := by
  induction us generalizing s with
  | nil => rfl
  | cons u us ih =>
    by_cases hu : u.val < count
    · have hplan : (scheduleClaim r row s u).plan = s.plan := (inert_keeps.scheduleClaim u (inert_keeps.refl s)).plan
      rw [List.filter_cons_of_pos (by simpa using hu), List.foldl_cons, List.foldl_cons, ← hg s u hs hu]
      exact ih (by rw [hplan, hs])
    · rw [List.filter_cons_of_neg (by simpa using hu), List.foldl_cons, scheduleClaim_outOfService (by omega)]
      exact ih hs

theorem scheduleClaims_single {n : Mode} (hin : u.val < s.plan.station.unitCount.toNat)
    (h : row.entries[u.val].mode = some n) (ho : ∀ v : UnitNo, v ≠ u → row.entries[v.val].mode = none) :
    s.scheduleClaims r row = s.queueOrder (scheduleArrival r u n row.entries[u.val].setpoint) := by
  obtain ⟨before, behind, hl⟩ := List.append_of_mem (mem_unitNumbers u)
  have hnodup := unitNumbers_nodup
  rw [hl] at hnodup
  simp only [List.nodup_append, List.nodup_cons] at hnodup
  have hkeep : ∀ l : List UnitNo, u ∉ l → ∀ t : State, l.foldl (scheduleClaim r row) t = t := fun l hul t =>
    foldl_scheduleClaim_keep fun v hv => scheduleClaim_keep (ho v fun e => hul (e ▸ hv))
  unfold scheduleClaims
  rw [hl, List.foldl_append, hkeep before fun hb => hnodup.2.2 u hb u List.mem_cons_self rfl, List.foldl_cons,
    hkeep behind hnodup.2.1.1, scheduleClaim_hands hin h]

theorem queueOrder_unavailable {a : Arrival} (ha : a.target = .unit u)
    (h : (s.unit u).mode = .out ∨ (s.unit u).mode = .tripped) : s.queueOrder a = s.refuseArrival a .unitUnavailable := by
  refine if_pos ?_
  rw [ha]
  rcases h with h | h <;> simp [whollyUnavailable, outOrTripped, h]

/-- A claim for a unit in UNKNOWN waits (R41, R47). -/
theorem queueOrder_unknown {a : Arrival} (ha : a.target = .unit u) (hm : (s.unit u).mode = .unknown)
    (ht : (s.unit u).transition = none) (hr : (s.unit u).reserveClaim = none) (ho : s.orders = []) :
    s.queueOrder a = s.accepted a := by
  have hnone : ∀ q ∈ s.orders, q.target ≠ .unit u := by rw [ho]; exact nofun
  have hsup : s.supersedeFor a.target = s := by
    rw [ha]
    exact supersedeQueued_of_none hnone
  have hunits : ∀ q ∈ (s.accepted a).orders, ∃ v, q.target = .unit v := by
    rw [orders_accepted, ho, List.nil_append]
    intro q hq
    exact ⟨u, by rw [List.mem_singleton.mp hq]; exact ha⟩
  rw [queueOrder_accepts, hsup, acceptArrival_unit ha, actOn_rest (by rw [unit_accepted, ht]), startAttempt_of_units _ hunits]
  · intro m hrest
    exact absurd (hm.symm.trans ((unit_accepted u ▸ hrest.mode : (s.unit u).mode = .settled m))) nofun
  · rw [ha]
    exact not_whollyUnavailable_unit (by rw [hm]; exact nofun) (by rw [hm]; exact nofun)
  · rw [ha]
    exact outranked_eq_false hr hnone
  · rw [hsup, ho]
    decide

end State

/-- Settles O38: the row that follows by PENDING, the last row and LOOP; then the claims of a row unit by unit. -/
theorem rowsEndAndHandTheirClaims : Obligations.RowsEndAndHandTheirClaims := by
  refine ⟨?rows, ?claims, fun src ident tag u n setpoint validity s hl hd hs hin => exec_order_unit hl hd hs hin⟩
  case rows =>
    intro s
    have hexec : exec .rowDeadlineReached s = .next (s.whenDue s.rowDue State.endRow) := rfl
    refine ⟨fun h => ?_, fun d hr hd hdue => ?_⟩
    · rw [hexec, State.whenDue_early (State.rowDue_early h)]
    · rw [State.whenDue_due (State.rowDue_due hr hd hdue)] at hexec
      intro begun isLast begins
      have hlast : s.program.currentRow = State.lastRow s.program.run ↔ isLast := State.eq_lastRow_iff ..
      have hbegins : ∀ run r, s.endRow = s.rowBegins run r → begins run r := by
        intro run r h
        refine ⟨fun hd => ?_, fun hd => ?_⟩
        · rw [hexec, h]
          exact congrArg Host.Outcome.next (if_neg hd)
        · rw [hexec, h]
          exact congrArg Host.Outcome.next (if_pos hd)
      refine ⟨fun run h => hbegins _ _ (State.endRow_pending hr h), fun h => ⟨fun hl => ?_, fun hl hloop => ?_, fun hl hloop => ?_⟩,
        _, hexec, ?_⟩
      · exact hbegins _ _ (State.endRow_next hr h fun he => hl (hlast.mp he))
      · exact hbegins _ _ (State.endRow_loops hr h (hlast.mpr hl) hloop)
      · rw [hexec, State.endRow_stops h (hlast.mpr hl) hloop]
        rfl
      · cases h : s.program.pendingRun with
        | some run => rw [State.endRow_pending hr h, State.program_rowBegins]; rfl
        | none =>
          dsimp only
          split
          · next hl => rw [State.endRow_next hr h fun he => hl (hlast.mp he), State.program_rowBegins]; rfl
          · next hl =>
            have hl' := hlast.mpr (not_not.mp hl)
            cases hloop : s.program.run.loop with
            | true => rw [State.endRow_loops hr h hl' hloop, State.program_rowBegins]; rfl
            | false => rw [State.endRow_stops h hl' hloop]; rfl
  case claims =>
    intro r row s
    refine ⟨?_, fun hnone => ?_, fun u n hin hn hothers => ?_⟩
    · refine State.foldl_scheduleClaim (count := s.plan.station.unitCount.toNat) (fun t u ht hu => ?_) unitNumbers rfl
      cases h : row.entries[u.val].mode with
      | none => exact State.scheduleClaim_keep h
      | some n => exact State.scheduleClaim_hands (ht ▸ hu) h
    · refine State.foldl_scheduleClaim_keep fun u _ => ?_
      by_cases hin : u.val < s.plan.station.unitCount.toNat
      · exact State.scheduleClaim_keep (hnone u hin)
      · exact State.scheduleClaim_outOfService (by omega)
    · rw [State.scheduleClaims_single hin hn hothers]
      refine ⟨fun h => State.queueOrder_unavailable rfl h, fun hm ht hr ho => ?_⟩
      rw [State.queueOrder_unknown rfl hm ht hr ho, State.accepted, State.appendOrder, ho]
      rfl

end Sys2Proof.Machine
end

section
/-!
PROOFS. Chapter 11: the counting of events (R173, R175, R176) and of seconds (R174).
-/

namespace Sys2Proof.Machine

theorem mem_counterNumbers (n : CounterNo) : n ∈ counterNumbers := by
  revert n
  decide

theorem counterNumbers_ascending : counterNumbers.Pairwise (· < ·) := by decide

namespace State

variable {s : State} {u : UnitNo} {n : CounterNo}

theorem updDuty_congr {f g : Duty → Duty} (h : f (s.dutyOf u) = g (s.dutyOf u)) : s.updDuty u f = s.updDuty u g :=
  congrArg (fun d => { s with duty := s.duty.set u.val d }) h

theorem updDuty_const (f : Duty → Duty) : s.updDuty u f = s.updDuty u fun _ => (s.updDuty u f).dutyOf u :=
  updDuty_congr (dutyOf_updDuty_self s u f).symm

theorem eq_of_updDuty {t : State} {f : Duty → Duty} (h : t = s.updDuty u f) : t = { s with duty := t.duty } := by
  subst h
  rfl

theorem canCount_iff : s.canCount u n = true ↔
    (s.dutyOf u).enable.getLsbD n.val = true ∧ (s.dutyOf u).freeze = false ∧ s.globalFreeze = false := by
  unfold canCount
  rw [Bool.and_eq_true, Bool.and_eq_true, Bool.not_eq_true', Bool.not_eq_true', and_assoc]

/-! ## Counters counted together (R175) -/

theorem nodup_filter_counters (p : CounterNo → Bool) : (counterNumbers.filter p).Nodup :=
  (counterNumbers_ascending.imp fun h => ne_of_lt h).filter p

theorem mem_filter_counters {p : CounterNo → Bool} : n ∈ counterNumbers.filter p ↔ p n = true := by
  rw [List.mem_filter]
  exact and_iff_right (mem_counterNumbers n)

/-- The counters that wrap when those of `p` are increased, in ascending number (R175; log 26). -/
def wraps (u : UnitNo) (p : CounterNo → Bool) (s : State) : List CounterNo :=
  (counterNumbers.filter p).filter fun n => s.counterValue u n = 0xFFFFFFFF#32

theorem wraps_ascending (p : CounterNo → Bool) : (s.wraps u p).Pairwise fun n k => n < k :=
  (counterNumbers_ascending.filter _).filter _

theorem mem_wraps {p : CounterNo → Bool} : n ∈ s.wraps u p ↔ p n = true ∧ s.counterValue u n = 0xFFFFFFFF#32 := by
  rw [wraps, List.mem_filter, mem_filter_counters, decide_eq_true_iff]

theorem countAll_filter (p : CounterNo → Bool) : s.countAll u (counterNumbers.filter p) =
    (s.wraps u p).foldl (overflow u) ((counterNumbers.filter p).foldl (increase u) s) := rfl

/-- The registers of a unit whose counters are increased: only the values differ. -/
theorem foldl_increase_dutyOf (ns : List CounterNo) : ns.foldl (increase u) s =
      (s.updDuty u fun _ => (ns.foldl (increase u) s).dutyOf u) ∧
    (ns.foldl (increase u) s).dutyOf u =
      { s.dutyOf u with value := ((ns.foldl (increase u) s).dutyOf u).value } := by
  rw [foldl_increase]
  refine ⟨updDuty_const _, ?_⟩
  rw [dutyOf_updDuty_self]

/-! ## An overflow (R176) -/

/-- Counter n of unit u latched as overflowed (R176). -/
def latched (u : UnitNo) (n : CounterNo) (s : State) : State :=
  s.updDuty u fun d => { d with latches := d.latches ||| BitVec.twoPow 4 n.val, summary := true }

/-- The overflow of counter n latched, with the alert of NOTIFY (R176). -/
def notified (u : UnitNo) (n : CounterNo) (s : State) : State :=
  if (s.dutyOf u).notify.getLsbD n.val = true then
    (s.latched u n).sendAlert .counterOverflow (unitByte u) (natHalf (n.val * 256 + eventCode (s.eventOf u n)))
  else s.latched u n

theorem dutyOf_latched : (s.latched u n).dutyOf u =
    { s.dutyOf u with latches := (s.dutyOf u).latches ||| BitVec.twoPow 4 n.val, summary := true } := by
  rw [latched, dutyOf_updDuty_self]

theorem dutyOf_notified : (s.notified u n).dutyOf u =
    { s.dutyOf u with latches := (s.dutyOf u).latches ||| BitVec.twoPow 4 n.val, summary := true } := by
  unfold notified
  split
  · rw [sendAlert, dutyOf_originate, dutyOf_latched]
  · rw [dutyOf_latched]

theorem overflow_eq : overflow u s n =
    if (s.dutyOf u).freezeOnOverflow = true then (s.notified u n).updDuty u fun d => { d with freeze := true }
    else s.notified u n := by
  have hnotify : ((s.latched u n).dutyOf u).notify = (s.dutyOf u).notify := by rw [dutyOf_latched]
  have hevent : (s.latched u n).eventOf u n = s.eventOf u n := by
    unfold eventOf
    rw [dutyOf_latched]
  have hnotified : (if ((s.latched u n).dutyOf u).notify.getLsbD n.val = true then
      (s.latched u n).sendAlert .counterOverflow (unitByte u)
        (natHalf (n.val * 256 + eventCode ((s.latched u n).eventOf u n)))
      else s.latched u n) = s.notified u n := by
    rw [hnotify, hevent]
    rfl
  have hfreeze : ((s.notified u n).dutyOf u).freezeOnOverflow = (s.dutyOf u).freezeOnOverflow := by rw [dutyOf_notified]
  rw [← hfreeze, ← hnotified]
  rfl

/-- The registers after an overflow: the latch and the summary, and the freeze of FREEZE_ON_OVERFLOW (R176). -/
theorem dutyOf_overflow : (overflow u s n).dutyOf u =
    { s.dutyOf u with
      latches := (s.dutyOf u).latches ||| BitVec.twoPow 4 n.val, summary := true
      freeze := (s.dutyOf u).freezeOnOverflow || (s.dutyOf u).freeze } := by
  rw [overflow_eq]
  cases hf : (s.dutyOf u).freezeOnOverflow with
  | true => rw [if_pos rfl, dutyOf_updDuty_self, dutyOf_notified, Bool.true_or]
  | false => rw [if_neg Bool.false_ne_true, dutyOf_notified, Bool.false_or]

/-- After the overflows of a list are acted on, each of its counters has its latch, and the unit its summary. -/
theorem foldl_overflow_latches {ns : List CounterNo} (hn : n ∈ ns) :
    (((ns.foldl (overflow u) s).dutyOf u).latches.getLsbD n.val = true ∧
      ((ns.foldl (overflow u) s).dutyOf u).summary = true) ∧
      ((s.dutyOf u).freezeOnOverflow = true → ((ns.foldl (overflow u) s).dutyOf u).freeze = true) := by
  have hkept : ∀ (ks : List CounterNo) (t : State), (t.dutyOf u).latches.getLsbD n.val = true →
      (t.dutyOf u).summary = true → ((s.dutyOf u).freezeOnOverflow = true → (t.dutyOf u).freeze = true) →
      (((ks.foldl (overflow u) t).dutyOf u).latches.getLsbD n.val = true ∧
        ((ks.foldl (overflow u) t).dutyOf u).summary = true) ∧
        ((s.dutyOf u).freezeOnOverflow = true → ((ks.foldl (overflow u) t).dutyOf u).freeze = true) := by
    intro ks
    induction ks with
    | nil => exact fun t hl hs hf => ⟨⟨hl, hs⟩, hf⟩
    | cons k ks ih =>
      refine fun t hl hs hf => ih _ ?_ ?_ fun h => ?_
      · rw [dutyOf_overflow, BitVec.getLsbD_or, hl, Bool.true_or]
      · rw [dutyOf_overflow]
      · rw [dutyOf_overflow, hf h, Bool.or_true]
  obtain ⟨before, behind, rfl⟩ := List.append_of_mem hn
  rw [List.foldl_append, List.foldl_cons]
  have hcontrol : ((before.foldl (overflow u) s).dutyOf u).freezeOnOverflow = (s.dutyOf u).freezeOnOverflow :=
    (Counted.foldl (fun _ _ => Counted.overflow _) before s).self.freezeOnOverflow
  refine hkept behind _ ?_ ?_ fun h => ?_
  · rw [dutyOf_overflow, BitVec.getLsbD_or, BitVec.getLsbD_twoPow]
    simp
  · rw [dutyOf_overflow]
  · rw [dutyOf_overflow, hcontrol, h, Bool.true_or]

end State

/-- Settles O39: the event increases the counters that count it, and then each overflow is acted on. -/
theorem dutyEventsCountAndOverflow : Obligations.DutyEventsCountAndOverflow := by
  refine ⟨?event, ?overflow, ?mode⟩
  case event =>
    intro e u s
    have hcounts : ∀ n, (decide (s.eventOf u n = e) && s.canCount u n) = true ↔ s.eventOf u n = e ∧ s.canCount u n = true :=
      fun n => by rw [Bool.and_eq_true, decide_eq_true_iff]
    have hmem : ∀ n, n ∈ counterNumbers.filter (fun n => decide (s.eventOf u n = e) && s.canCount u n) ↔
        s.eventOf u n = e ∧ s.canCount u n = true := fun n => State.mem_filter_counters.trans (hcounts n)
    have hcounted : Counted u s (s.dutyEvent e u) := Counted.dutyEvent e
    refine ⟨fun n => ?_, hcounted.other, fun h => ?_, hcounted.eq, _, s.wraps u fun n => decide (s.eventOf u n = e) && s.canCount u n,
      State.countAll_filter _, State.wraps_ascending _, fun n => ?_, (State.foldl_increase_dutyOf _).1,
      (State.foldl_increase_dutyOf _).2, fun n => ?_⟩
    · rw [State.dutyEvent, State.countAll_counterValue (State.nodup_filter_counters _)]
      exact if_congr (hmem n) rfl rfl
    · have hnone : counterNumbers.filter (fun n => decide (s.eventOf u n = e) && s.canCount u n) = [] := by
        refine List.filter_eq_nil_iff.mpr fun n _ hn => ?_
        obtain ⟨_, hfreeze, hglobal⟩ := State.canCount_iff.mp ((hcounts n).mp hn).2
        rcases h with h | h
        · exact Bool.false_ne_true (hfreeze.symm.trans h)
        · exact Bool.false_ne_true (hglobal.symm.trans h)
      rw [State.dutyEvent, hnone]
      rfl
    · rw [State.mem_wraps, hcounts, and_assoc]
    · rw [State.foldl_increase_counterValue (State.nodup_filter_counters _)]
      exact if_congr (hmem n) rfl rfl
  case overflow =>
    intro u n s latched notified
    exact State.overflow_eq
  case mode =>
    intro u m s entered
    have hchange : (s.unit u).mode ≠ m → s.changeMode u m =
        match State.entryEvent m with
        | some e => entered.dutyEvent e u
        | none => entered := fun h => if_neg h
    refine ⟨fun h => ?_, fun h => ⟨?_, ?_, ?_, ?_⟩⟩
    · exact (if_pos h).trans (State.updUnit_eq_self (by rw [← h]))
    · rintro rfl
      exact hchange h
    · rintro rfl
      exact hchange h
    · rintro (rfl | rfl) <;> exact hchange h
    · rintro (rfl | rfl | rfl | rfl) <;> exact hchange h

namespace State

variable {s : State} {u : UnitNo} {n k : CounterNo}

/-! ## Seconds (R174) -/

theorem measures_iff : s.measures u n = true ↔ s.secondCondition u (s.eventOf u n) = true ∧ s.canCount u n = true :=
  Bool.and_eq_true_iff

theorem secondReady_iff : s.secondReady u n = true ↔
    (s.secondCondition u (s.eventOf u n) = true ∧ s.canCount u n = true) ∧
      (s.dutyOf u).accumulator[n.val].val = 999 := by
  rw [← measures_iff, secondReady, Bool.and_eq_true, decide_eq_true_iff, Fin.ext_iff]
  rfl

/-- The counters of unit u that take their second with counter n (R174). -/
def takesSecond (u : UnitNo) (n : CounterNo) (s : State) (k : CounterNo) : Bool :=
  s.eventOf u k = s.eventOf u n && s.secondReady u k

theorem takesSecond_iff : s.takesSecond u n k = true ↔ s.secondReady u k = true ∧ s.eventOf u k = s.eventOf u n := by
  rw [takesSecond, Bool.and_eq_true, decide_eq_true_iff, and_comm]

/-- The seconds of unit u that are due with counter n's, taken, and the counters increased (R174, R175). -/
def secondsTaken (u : UnitNo) (n : CounterNo) (s : State) : State :=
  (counterNumbers.filter (s.takesSecond u n)).foldl (increase u)
    ((counterNumbers.filter (s.takesSecond u n)).foldl (takeSecond u) s)

theorem counterValue_foldl_takeSecond (ns : List CounterNo) :
    (ns.foldl (takeSecond u) s).counterValue u k = s.counterValue u k := by
  rw [foldl_takeSecond, counterValue, dutyOf_updDuty_self]
  rfl

theorem countSecond_eq :
    s.countSecond u n = (s.wraps u (s.takesSecond u n)).foldl (overflow u) (s.secondsTaken u n) := by
  have hwraps : ((counterNumbers.filter (s.takesSecond u n)).foldl (takeSecond u) s).wraps u (s.takesSecond u n) =
      s.wraps u (s.takesSecond u n) :=
    List.filter_congr fun k _ => by rw [counterValue_foldl_takeSecond]
  show ((counterNumbers.filter (s.takesSecond u n)).foldl (takeSecond u) s).countAll u
    (counterNumbers.filter (s.takesSecond u n)) = _
  rw [countAll_filter, hwraps]
  rfl

/-- Taking the seconds changes the values and the accumulators of the unit's registers alone. -/
theorem secondsTaken_dutyOf : s.secondsTaken u n = (s.updDuty u fun _ => (s.secondsTaken u n).dutyOf u) ∧
    (s.secondsTaken u n).dutyOf u =
      { s.dutyOf u with
        value := ((s.secondsTaken u n).dutyOf u).value, accumulator := ((s.secondsTaken u n).dutyOf u).accumulator } := by
  unfold secondsTaken
  rw [foldl_takeSecond, foldl_increase, updDuty_updDuty]
  refine ⟨updDuty_const _, ?_⟩
  rw [dutyOf_updDuty_self]

theorem secondsTaken_registers :
    (s.takesSecond u n k = true → (s.secondsTaken u n).counterValue u k = s.counterValue u k + 1 ∧
      ((s.secondsTaken u n).dutyOf u).accumulator[k.val].val = 0) ∧
    (¬ s.takesSecond u n k = true → (s.secondsTaken u n).counterValue u k = s.counterValue u k ∧
      ((s.secondsTaken u n).dutyOf u).accumulator[k.val] = (s.dutyOf u).accumulator[k.val]) := by
  have hnodup := nodup_filter_counters (s.takesSecond u n)
  have hvalue : (s.secondsTaken u n).counterValue u k =
      if k ∈ counterNumbers.filter (s.takesSecond u n) then s.counterValue u k + 1 else s.counterValue u k := by
    rw [secondsTaken, foldl_increase_counterValue hnodup, counterValue_foldl_takeSecond]
  have haccumulator : ((s.secondsTaken u n).dutyOf u).accumulator[k.val] =
      if k ∈ counterNumbers.filter (s.takesSecond u n) then 0 else (s.dutyOf u).accumulator[k.val] := by
    rw [← foldl_takeSecond_accumulator hnodup, secondsTaken, foldl_increase]
    simp only [dutyOf_updDuty_self]
  rw [hvalue, haccumulator]
  refine ⟨fun h => ?_, fun h => ?_⟩
  · rw [if_pos (mem_filter_counters.mpr h), if_pos (mem_filter_counters.mpr h)]
    exact ⟨rfl, rfl⟩
  · rw [if_neg fun hm => h (mem_filter_counters.mp hm), if_neg fun hm => h (mem_filter_counters.mp hm)]
    exact ⟨rfl, rfl⟩

end State

/-- Settles O40: the second increases the counters that measure with it, and then each overflow is acted on. -/
theorem dutySecondCountsAWholeSecond : Obligations.DutySecondCountsAWholeSecond := by
  intro u n s measures ready taken
  have hexec : exec (.dutySecond u n) s = .next (s.whenDue (s.secondReady u n) (State.countSecond u n)) := rfl
  have hready : ∀ k, s.secondReady u k = true ↔ ready k := fun k => State.secondReady_iff
  have htaken : ∀ k, s.takesSecond u n k = true ↔ taken k := fun k =>
    State.takesSecond_iff.trans (and_congr_left fun _ => hready k)
  have hcounts : ready n → exec (.dutySecond u n) s =
      .next ((s.wraps u (s.takesSecond u n)).foldl (State.overflow u) (s.secondsTaken u n)) := fun h => by
    rw [hexec, State.whenDue_due ((hready n).mpr h), State.countSecond_eq]
  have hregisters : ∀ k,
      (taken k → (s.secondsTaken u n).counterValue u k = s.counterValue u k + 1 ∧
        ((s.secondsTaken u n).dutyOf u).accumulator[k.val].val = 0) ∧
      (¬ taken k → (s.secondsTaken u n).counterValue u k = s.counterValue u k ∧
        ((s.secondsTaken u n).dutyOf u).accumulator[k.val] = (s.dutyOf u).accumulator[k.val]) := fun k => by
    rw [← htaken k]
    exact State.secondsTaken_registers
  obtain ⟨hchange, hcontrol⟩ := State.secondsTaken_dutyOf (s := s) (u := u) (n := n)
  refine ⟨fun k j hk hj => State.secondCondition_event hk.1 hj.1, fun h => ?_, fun h => ?_, fun h => ?_⟩
  · rw [hexec, State.whenDue_early (Bool.eq_false_iff.mpr fun hr => h ((hready n).mp hr))]
  · refine ⟨_, _, hcounts h, State.wraps_ascending _, fun k => ?_, hchange, hcontrol, hregisters⟩
    rw [State.mem_wraps, htaken]
  · set wrapped := s.wraps u (s.takesSecond u n) with hwrapped
    have hoverflows : Counted u (s.secondsTaken u n) (wrapped.foldl (State.overflow u) (s.secondsTaken u n)) :=
      Counted.foldl (fun _ _ => Counted.overflow _) wrapped _
    set t := wrapped.foldl (State.overflow u) (s.secondsTaken u n) with ht
    refine ⟨t, hcounts h, fun k hk => ⟨?_, fun hmax => ?_⟩, fun k hk => ⟨?_, ?_⟩, ?_, fun v hv => ?_⟩
    · rw [ht, State.foldl_overflow_counterValue]
      exact ((hregisters k).1 hk).1
    · have hmem : k ∈ wrapped := State.mem_wraps.mpr ⟨(htaken k).mpr hk, hmax⟩
      obtain ⟨⟨hl, hs⟩, hf⟩ := State.foldl_overflow_latches (s := s.secondsTaken u n) (u := u) hmem
      exact ⟨hl, hs, fun hfreeze => hf (by rw [hcontrol]; exact hfreeze)⟩
    · rw [ht, State.foldl_overflow_counterValue]
      exact ((hregisters k).2 hk).1
    · rw [hoverflows.self.accumulator]
      exact ((hregisters k).2 hk).2
    · exact hoverflows.eq.trans (congrArg (fun x : State => { x with duty := t.duty, plantPort := t.plantPort })
        (State.eq_of_updDuty hchange))
    · rw [hoverflows.other v hv, hchange, State.dutyOf_updDuty_of_ne _ hv]

end Sys2Proof.Machine
end

section
/-!
PROOFS. Steps on an empty queue: what a millisecond changes (R174, R175; log 1, log 12).
-/

namespace Sys2Proof.Machine
namespace State

variable {s t : State} {u v : UnitNo} {n : CounterNo}

/-! ## Updates of two units' registers -/

theorem updDuty_comm (h : v ≠ u) (f g : Duty → Duty) :
    (s.updDuty v f).updDuty u g = (s.updDuty u g).updDuty v f := by
  have hval : v.val ≠ u.val := Fin.val_ne_of_ne h
  simp only [updDuty, Vector.getElem_set_ne _ _ hval, Vector.getElem_set_ne _ _ hval.symm]
  rw [Vector.set_comm _ _ hval]

theorem originate_updDuty (f : Duty → Duty) (p : PortName) (tel : Telegram) :
    (s.updDuty v f).originate p tel = (s.originate p tel).updDuty v f := by
  have hcan : (s.updDuty v f).canOriginate p = s.canOriginate p := by cases p <;> rfl
  unfold originate
  rw [hcan]
  split <;> cases p <;> rfl

theorem overflow_updDuty (h : v ≠ u) (f : Duty → Duty) :
    overflow u (s.updDuty v f) n = (overflow u s n).updDuty v f := by
  have hduty : (s.updDuty v f).dutyOf u = s.dutyOf u := dutyOf_updDuty_of_ne s (Ne.symm h) f
  have hevent : (s.updDuty v f).eventOf u n = s.eventOf u n := by
    unfold eventOf
    rw [hduty]
  have hlatched : (s.updDuty v f).latched u n = (s.latched u n).updDuty v f := updDuty_comm h ..
  have hnotified : (s.updDuty v f).notified u n = (s.notified u n).updDuty v f := by
    unfold notified
    rw [hduty, hevent, hlatched]
    split
    · exact originate_updDuty ..
    · rfl
  rw [overflow_eq, overflow_eq, hduty, hnotified]
  split
  · exact updDuty_comm h ..
  · rfl

theorem foldl_overflow_updDuty (h : v ≠ u) (f : Duty → Duty) (ns : List CounterNo) :
    ns.foldl (overflow u) (s.updDuty v f) = (ns.foldl (overflow u) s).updDuty v f := by
  induction ns generalizing s with
  | nil => rfl
  | cons n ns ih => rw [List.foldl_cons, List.foldl_cons, overflow_updDuty h, ih]

/-- Each of the units' registers changed by its own function. -/
def updEach (g : UnitNo → Duty → Duty) (us : List UnitNo) (s : State) : State :=
  us.foldl (fun t u => t.updDuty u (g u)) s

theorem updEach_frame (g : UnitNo → Duty → Duty) (us : List UnitNo) :
    s.updEach g us = { s with duty := (s.updEach g us).duty } := by
  unfold updEach
  induction us generalizing s with
  | nil => rfl
  | cons u us ih => exact ih

theorem dutyOf_updEach {g : UnitNo → Duty → Duty} {us : List UnitNo} (hn : us.Nodup) (v : UnitNo) :
    (s.updEach g us).dutyOf v = if v ∈ us then g v (s.dutyOf v) else s.dutyOf v := by
  unfold updEach
  induction us generalizing s with
  | nil => rfl
  | cons u us ih =>
    obtain ⟨hu, hus⟩ := List.nodup_cons.mp hn
    rw [List.foldl_cons, ih hus]
    by_cases hv : v = u
    · subst hv
      simp [hu]
    · simp [hv, dutyOf_updDuty_of_ne s hv]

theorem foldl_overflow_updEach {us : List UnitNo} (hu : u ∉ us) (g : UnitNo → Duty → Duty) (ns : List CounterNo) :
    (ns.foldl (overflow u) s).updEach g us = ns.foldl (overflow u) (s.updEach g us) := by
  unfold updEach
  induction us generalizing s with
  | nil => rfl
  | cons v us ih =>
    have hv : v ≠ u := fun h => hu (h ▸ List.mem_cons_self)
    rw [List.foldl_cons, List.foldl_cons, ← foldl_overflow_updDuty hv]
    exact ih fun h => hu (List.mem_cons_of_mem v h)

/-! ## A millisecond is measured (R174) -/

/-- The registers of a unit when a millisecond is measured for the counters of `p`. -/
def millisecond (p : CounterNo → Bool) (d : Duty) : Duty :=
  { d with accumulator := (counterNumbers.filter p).foldl (fun v n => v.set n.val (v[n.val] + 1)) d.accumulator }

theorem measures_updDuty {f : Duty → Duty} (he : (f (t.dutyOf u)).event = (t.dutyOf u).event)
    (hn : (f (t.dutyOf u)).enable = (t.dutyOf u).enable) (hf : (f (t.dutyOf u)).freeze = (t.dutyOf u).freeze)
    (v : UnitNo) (n : CounterNo) : (t.updDuty u f).measures v n = t.measures v n := by
  have hsame : ((t.updDuty u f).dutyOf v).event = (t.dutyOf v).event ∧
      ((t.updDuty u f).dutyOf v).enable = (t.dutyOf v).enable ∧
      ((t.updDuty u f).dutyOf v).freeze = (t.dutyOf v).freeze := by
    by_cases hv : v = u
    · subst hv
      rw [dutyOf_updDuty_self]
      exact ⟨he, hn, hf⟩
    · rw [dutyOf_updDuty_of_ne t hv]
      exact ⟨rfl, rfl, rfl⟩
  obtain ⟨hevent, henable, hfreeze⟩ := hsame
  have heventOf : (t.updDuty u f).eventOf v n = t.eventOf v n := congrArg (fun e : Vector DutyEvent 4 => e[n.val]) hevent
  have hcan : (t.updDuty u f).canCount v n = t.canCount v n := by
    unfold canCount
    rw [henable, hfreeze]
    rfl
  unfold measures
  rw [heventOf, hcan]
  rfl

theorem foldl_measure {p : CounterNo → Bool} (hp : ∀ n, t.measures u n = p n) (ns : List CounterNo) :
    ns.foldl (fun t n => t.measure u n) t = t.updDuty u fun d =>
      { d with accumulator := (ns.filter p).foldl (fun v n => v.set n.val (v[n.val] + 1)) d.accumulator } := by
  induction ns generalizing t with
  | nil => exact updDuty_id.symm
  | cons n ns ih =>
    rw [List.foldl_cons]
    cases hn : p n with
    | true =>
      have hmeasure : t.measure u n =
          t.updDuty u fun d => { d with accumulator := d.accumulator.set n.val (d.accumulator[n.val] + 1) } :=
        if_pos ((hp n).trans hn)
      rw [hmeasure, ih fun k => (measures_updDuty rfl rfl rfl u k).trans (hp k), List.filter_cons_of_pos hn, updDuty_updDuty]
      rfl
    | false =>
      have hmeasure : t.measure u n = t := if_neg (by rw [hp n, hn]; exact Bool.false_ne_true)
      rw [hmeasure, ih hp, List.filter_cons_of_neg (by simp [hn])]

theorem measureAll_eq : s.measureAll = s.updEach (fun u => millisecond (s.measures u)) unitNumbers := by
  have hfold : ∀ (us : List UnitNo) (t : State), (∀ v n, t.measures v n = s.measures v n) →
      us.foldl (fun t u => counterNumbers.foldl (fun t n => t.measure u n) t) t =
        t.updEach (fun u => millisecond (s.measures u)) us := by
    intro us
    induction us with
    | nil => exact fun _ _ => rfl
    | cons u us ih =>
      intro t ht
      rw [List.foldl_cons, foldl_measure (ht u)]
      exact ih _ fun v n => (measures_updDuty rfl rfl rfl v n).trans (ht v n)
  exact hfold unitNumbers s fun _ _ => rfl

/-! ## The seconds that a millisecond completes (R174, R175) -/

/-- The registers of a unit when the counters of `p` are increased. -/
def increased (p : CounterNo → Bool) (d : Duty) : Duty :=
  { d with value := (counterNumbers.filter p).foldl (fun v n => v.set n.val (v[n.val] + 1)) d.value }

/-- Every counter is increased before any overflow is acted on, unit by unit (R175; log 26). -/
theorem foldl_countAll {p : UnitNo → CounterNo → Bool} {us : List UnitNo} (hn : us.Nodup)
    (ht : ∀ u ∈ us, ∀ n, t.counterValue u n = s.counterValue u n) :
    us.foldl (fun t u => t.countAll u (counterNumbers.filter (p u))) t =
      us.foldl (fun x u => (s.wraps u (p u)).foldl (overflow u) x) (t.updEach (fun u => increased (p u)) us) := by
  induction us generalizing t with
  | nil => rfl
  | cons u us ih =>
    obtain ⟨hu, hus⟩ := List.nodup_cons.mp hn
    have hwraps : t.wraps u (p u) = s.wraps u (p u) :=
      List.filter_congr fun n _ => by rw [ht u List.mem_cons_self n]
    have hothers : ∀ v ∈ us, ∀ n, (t.countAll u (counterNumbers.filter (p u))).counterValue v n = s.counterValue v n := by
      intro v hv n
      have hvu : v ≠ u := fun h => hu (h ▸ hv)
      rw [counterValue, (Counted.countAll _).other v hvu]
      exact ht v (List.mem_cons_of_mem u hv) n
    rw [List.foldl_cons, ih hus hothers, countAll_filter, hwraps, foldl_overflow_updEach hu, foldl_increase]
    rfl

theorem tick_eq : s.tick =
    unitNumbers.foldl (fun x u => (s.wraps u (s.secondReady u)).foldl (overflow u) x)
      (({ s with now := s.now + 1 } : State).updEach (fun u => millisecond (s.measures u)) unitNumbers |>.updEach
        (fun u => increased (s.secondReady u)) unitNumbers) := by
  have hmeasured := measureAll_eq (s := { s with now := s.now + 1 })
  unfold tick passTime
  rw [hmeasured]
  refine foldl_countAll (p := fun u => s.secondReady u) unitNumbers_nodup fun u _ n => ?_
  rw [counterValue, dutyOf_updEach unitNumbers_nodup, if_pos (mem_unitNumbers u)]
  rfl

/-- The state when a millisecond is measured and the seconds it completes are taken, before the overflows. -/
def measured (s : State) : State :=
  (({ s with now := s.now + 1 } : State).updEach (fun u => millisecond (s.measures u)) unitNumbers).updEach
    (fun u => increased (s.secondReady u)) unitNumbers

theorem measured_frame : s.measured = { s with now := s.now + 1, duty := s.measured.duty } :=
  (updEach_frame ..).trans (congrArg (fun x : State => { x with duty := s.measured.duty }) (updEach_frame ..))

theorem dutyOf_measured (u : UnitNo) :
    s.measured.dutyOf u = increased (s.secondReady u) (millisecond (s.measures u) (s.dutyOf u)) := by
  rw [measured, dutyOf_updEach unitNumbers_nodup, if_pos (mem_unitNumbers u), dutyOf_updEach unitNumbers_nodup,
    if_pos (mem_unitNumbers u)]
  rfl

theorem counterValue_measured (u : UnitNo) (n : CounterNo) : s.measured.counterValue u n =
    if s.secondReady u n = true then s.counterValue u n + 1 else s.counterValue u n := by
  rw [counterValue, dutyOf_measured]
  exact (foldl_set_get (fun w : Word => w + 1) (nodup_filter_counters (s.secondReady u)) (s.dutyOf u).value n).trans
    (if_congr mem_filter_counters rfl rfl)

theorem accumulator_measured (u : UnitNo) (n : CounterNo) : (s.measured.dutyOf u).accumulator[n.val] =
    if s.measures u n = true then (s.dutyOf u).accumulator[n.val] + 1 else (s.dutyOf u).accumulator[n.val] := by
  rw [dutyOf_measured]
  exact (foldl_set_get (fun a : Fin 1000 => a + 1) (nodup_filter_counters (s.measures u)) (s.dutyOf u).accumulator
    n).trans (if_congr mem_filter_counters rfl rfl)

/-! ## A step on an empty queue (log 1, log 3) -/

theorem step_due {c : Instr} {rest : List Instr} (hp : s.pending = []) (hd : s.dueCommands = c :: rest) :
    step s = exec c s := by
  unfold step
  rw [hp]
  show s.idle = _
  unfold idle
  rw [hd]

theorem step_tick (hp : s.pending = []) (hd : s.dueCommands = []) : step s = .next s.tick := by
  unfold step
  rw [hp]
  show s.idle = _
  unfold idle
  rw [hd]

theorem secondCondition_of_noSecond {e : DutyEvent} (h : eventCode e < 11 ∨ 14 < eventCode e) :
    s.secondCondition u e = false := by
  cases e <;> simp [secondCondition, eventCode] at h ⊢

end State

/-- Settles O2: an idle step by whether a command is due, and a tick by the counters that measure. -/
theorem idleStepRunsWhatIsDueOrTicks : Obligations.IdleStepRunsWhatIsDueOrTicks := by
  refine ⟨?step, ?conditions⟩
  case step =>
    intro s hp measures full
    have hmeasures : ∀ u n, s.measures u n = true ↔ measures u n := fun u n => State.measures_iff
    have hfull : ∀ u n, s.secondReady u n = true ↔ full u n := fun u n => State.secondReady_iff
    refine ⟨fun c rest hd => State.step_due hp hd, fun hd => ?_⟩
    refine ⟨s.measured, fun u => s.wraps u (s.secondReady u), ?_, State.measured_frame, fun u =>
      ⟨State.wraps_ascending _, fun n => ?_, ?_, fun n => ⟨fun h => ?_, fun h => ⟨?_, fun hm => ?_, fun hm => ?_⟩⟩⟩⟩
    · rw [State.step_tick hp hd, State.tick_eq]
      rfl
    · rw [State.mem_wraps, hfull]
    · rw [State.dutyOf_measured]
      rfl
    · rw [State.counterValue_measured, State.accumulator_measured, if_pos ((hfull u n).mpr h),
        if_pos ((hmeasures u n).mpr h.1)]
      refine ⟨?_, rfl⟩
      rw [Fin.val_add, h.2]
      rfl
    · rw [State.counterValue_measured, if_neg fun hr => h ((hfull u n).mp hr)]
    · rw [State.accumulator_measured, if_pos ((hmeasures u n).mpr hm), Fin.val_add]
      have hlt := (s.dutyOf u).accumulator[n.val].isLt
      have hne : (s.dutyOf u).accumulator[n.val].val ≠ 999 := fun h999 => h ⟨hm, h999⟩
      show (_ + 1) % 1000 = _
      omega
    · rw [State.accumulator_measured, if_neg fun hr => hm ((hmeasures u n).mp hr)]
  case conditions =>
    intro s u
    refine ⟨?_, ?_, ?_, ?_, fun e => State.secondCondition_of_noSecond, fun n => State.canCount_iff⟩ <;>
      simp [State.secondCondition, State.unitInService, Option.isNone_iff_eq_none, Option.isSome_iff_ne_none]

end Sys2Proof.Machine
end


section
/-!
PROOFS. Chapter 10: the requests that have no effect but their answer (R159 to R161), and RESET (R169).
-/

namespace Sys2Proof.Machine

/-! ## Arrival of a request -/

/-- A telegram of kind MANAGEMENT REQUEST to the part, on the plant port, is a request. -/
theorem routeOf_request {t : Telegram} (hk : t.kind = 0x03) (hd : t.dst = 0x01) : routeOf .plant t = .request := by
  simp [routeOf, hk, hd]

section

variable {s : State} {t : Telegram}

/-- Such a telegram reaches the responder with its tag and payload. -/
theorem takeTelegram_request (hl : s.plantPort.link = true) (hlen : t.payload.length ≤ 64) (hk : t.kind = 0x03)
    (hd : t.dst = 0x01) :
    s.takeTelegram .plant t = (s.heard .plant t.src).respond t.tag t.payload := by
  rw [takeTelegram_up (receives_plant hl) hlen, State.routeTelegram, routeOf_request hk hd]

end

namespace State

variable {s : State} {tag : Half} {payload : List Byte} {r : Request}

@[simp] theorem heard_plant_resetPending (src : Byte) : (s.heard .plant src).resetPending = s.resetPending := by
  obtain ⟨counters, deadline, h⟩ := heard_plant_eq (s := s) src
  rw [h]

@[simp] theorem heard_plant_originated (src : Byte) :
    (s.heard .plant src).plantPort.originated = s.plantPort.originated := by
  obtain ⟨counters, deadline, h⟩ := heard_plant_eq (s := s) src
  rw [h]

@[simp] theorem heard_plant_link (src : Byte) : (s.heard .plant src).plantPort.link = s.plantPort.link := by
  obtain ⟨counters, deadline, h⟩ := heard_plant_eq (s := s) src
  rw [h]

@[simp] theorem heard_lines (p : PortName) (src : Byte) : (s.heard p src).lines = s.lines := by
  unfold heard
  dsimp only
  split <;> simp

theorem respond_pending (hp : s.resetPending = true) : s.respond tag payload = s := if_pos hp

/-- A payload shorter than a request header is answered BAD_VALUE, with the code it has, or 0 (R159). -/
theorem respond_short (hp : s.resetPending = false) (hlen : payload.length < 4) :
    s.respond tag payload = answer tag (payload.getD 0 0) 0 (s, .bad .badValue) := by
  unfold respond
  rw [if_neg (by simp [hp])]
  match payload, hlen with
  | [], _ => rfl
  | [_], _ => rfl
  | [_, _], _ => rfl
  | [_, _, _], _ => rfl

/-- A code outside 1 to 16 is that of no request (R160). -/
theorem handle_noSuchRequest {code : Byte} (hc : code = 0 ∨ 16 < code.toNat) :
    s.handle code r = (s, .bad .noSuchRequest) := by
  have hn : code.toNat = 0 ∨ 16 < code.toNat := hc.imp_left fun h => congrArg BitVec.toNat h
  unfold handle
  split
  case h_16 => rfl
  all_goals omega

/-- DATA that is not one byte from 1 to 5 names no action (R161). -/
theorem counterControl_badValue (h : ∀ a, r.data = [a] → a = 0 ∨ 5 < a.toNat) :
    s.counterControl r = (s, .bad .badValue) := by
  unfold counterControl
  split
  next a ha =>
    have hne : ∀ k : Byte, 1 ≤ k.toNat → k.toNat ≤ 5 → a ≠ k := by
      rintro k h1 h5 rfl
      rcases h a ha with h0 | h0
      · simp [h0] at h1
      · omega
    rw [if_neg (hne 1 (by decide) (by decide)), if_neg (hne 2 (by decide) (by decide)),
      if_neg (hne 3 (by decide) (by decide)), if_neg (hne 4 (by decide) (by decide)),
      if_neg (hne 5 (by decide) (by decide))]
  next => rfl

/-! ## RESET (R169) -/

theorem resetRequest_badValue (hd : r.data ≠ []) :
    s.resetRequest tag r = answer tag 16 r.index (s, .bad .badValue) := if_pos hd

theorem resetRequest_placed (hd : r.data = []) (hl : s.plantPort.link = true)
    (hroom : s.plantPort.originated.length < 16) :
    s.resetRequest tag r = { answer tag 16 r.index (s, .ok []) with resetPending := true } := by
  rw [resetRequest, if_neg (not_not.mpr hd), if_pos]
  simp [canOriginate, port, hl, hroom]

/-- The counter of the answer dropped is one of those that the soft reset empties. -/
theorem resetRequest_dropped (hd : r.data = []) (hfull : 16 ≤ s.plantPort.originated.length) :
    s.resetRequest tag r = s.softResetEvent s.lines := by
  have hno : ¬ s.canOriginate .plant = true := by simp [canOriginate, port, Nat.not_lt.mpr hfull]
  rw [resetRequest, if_neg (not_not.mpr hd), if_neg hno, answer, originate, if_neg hno]
  exact softResetEvent_plantPort rfl

end State

/-- Settles O41: the arrival is heard, and the responder then changes nothing but its answer. -/
theorem requestsWithoutEffect : Obligations.RequestsWithoutEffect := by
  refine ⟨fun src ident tag payload s hs hlen => congrArg Host.Outcome.next ?short,
    fun h code data s hs hlen hc => congrArg Host.Outcome.next ?code,
    fun h data s hs hlen ha => congrArg Host.Outcome.next ?action,
    fun src ident tag payload s hl hp hlen => congrArg Host.Outcome.next ?pending, fun i t s hi hk hd hl hp hlen => ?any⟩
  case short =>
    rw [takeTelegram_request hs.1 (show payload.length ≤ 64 by omega) rfl rfl]
    exact State.respond_short (by simp [hs.2]) hlen
  case code =>
    have h16 : code ≠ 16 := by
      rintro rfl
      simp at hc
    rw [takeRequest_answered hs hlen h16, State.handle_noSuchRequest hc]
    rfl
  case action =>
    rw [takeRequest_answered hs hlen (by decide)]
    exact congrArg (State.answer h.tag 14 h.index) (State.counterControl_badValue ha)
  case pending =>
    rw [takeTelegram_request hl hlen rfl rfl]
    exact State.respond_pending (by simp [hp])
  case any =>
    rw [exec_of_telegram hi, takeTelegram_request hl hlen hk hd, State.respond_pending (by simp [hp])]

/-- Settles O53: the case is whether the answer finds room; when it does not, the counter of its drop is among those
that the soft reset empties. -/
theorem resetWaitsForItsAnswer : Obligations.ResetWaitsForItsAnswer := by
  intro h data s hs hlen s0
  have hreset : exec (.reset h data) s = .next (s0.resetRequest h.tag { table := h.table, index := h.index, data }) :=
    congrArg Host.Outcome.next (takeRequest_taken hs hlen)
  rw [hreset]
  refine ⟨fun hd => congrArg Host.Outcome.next (State.resetRequest_badValue hd), fun hd => ⟨fun hroom => ?_, fun hfull => ?_⟩⟩
  · exact congrArg Host.Outcome.next (State.resetRequest_placed hd (by simp [s0, hs.1]) (by simpa [s0] using hroom))
  · have hlines : s0.lines = s.lines := State.heard_lines .plant h.src
    rw [State.resetRequest_dropped hd (by simpa [s0] using hfull), hlines]

end Sys2Proof.Machine
end


section
/-!
PROOFS. Chapter 8: PROGRAM_START, PROGRAM_RENEW and PROGRAM_STOP (R129 to R131).
-/

namespace Sys2Proof.Machine

/-! ## The run that four bytes spell (R129) -/

theorem yesNo_eq_none {b : Byte} (h : 1 < b.toNat) : yesNo b = none := by
  unfold yesNo
  rw [if_neg (by rintro rfl; simp at h), if_neg (by rintro rfl; simp at h)]

theorem yesNo_eq_some {b : Byte} (h : b.toNat ≤ 1) : yesNo b = some (decide (b = 1)) := by
  have h01 : b = 0 ∨ b = 1 := (Nat.le_one_iff_eq_zero_or_eq_one.mp h).imp BitVec.eq_of_toNat_eq BitVec.eq_of_toNat_eq
  rcases h01 with rfl | rfl <;> rfl

theorem parseRun_eq_some {start loop : Byte} {length : Half} (h1 : 1 ≤ length.toNat) (h256 : length.toNat ≤ 256)
    (hl : loop.toNat ≤ 1) :
    parseRun [start, hiByte length, loByte length, loop] =
      some { start := start, length := length, loop := decide (loop = 1) } := by
  simp [parseRun, yesNo_eq_some hl, within, h1, h256]

theorem parseRun_eq_none {start loop : Byte} {length : Half}
    (h : ¬ (1 ≤ length.toNat ∧ length.toNat ≤ 256 ∧ loop.toNat ≤ 1)) :
    parseRun [start, hiByte length, loByte length, loop] = none := by
  by_cases hl : loop.toNat ≤ 1
  · have hlen : ¬ (1 ≤ length.toNat ∧ length.toNat ≤ 256) := fun hr => h ⟨hr.1, hr.2, hl⟩
    simp only [parseRun, yesNo_eq_some hl, half_hiByte_loByte, within, Option.bind_eq_bind, Option.bind_some,
      Bool.and_eq_true, decide_eq_true_eq, if_neg hlen]
  · simp [parseRun, yesNo_eq_none (Nat.lt_of_not_le hl)]

namespace State

variable {s : State} {r : Request} {run : Run}

/-! ## The requests by the checks that they meet (R129, R130, R160) -/

theorem programStop_ok (hd : r.data = []) : s.programStop r = (s.stopProgram, .ok []) := if_neg (not_not.mpr hd)

theorem programStop_badValue (hd : r.data ≠ []) : s.programStop r = (s, .bad .badValue) := if_pos hd

theorem programStart_badLength (hd : r.data.length ≠ 4) : s.programStart r = (s, .bad .badValue) := if_pos hd

theorem programStart_wrongState (hd : r.data.length = 4) (h : s.dispatcher = .unplanned ∨ s.dispatcher = .draining) :
    s.programStart r = (s, .bad .wrongState) := by
  rw [programStart, if_neg (not_not.mpr hd), if_pos h]

theorem programStart_noRun (hd : r.data.length = 4) (h : s.dispatcher = .directed ∨ s.dispatcher = .autonomous)
    (hrun : parseRun r.data = none) : s.programStart r = (s, .bad .badValue) := by
  rw [programStart, if_neg (not_not.mpr hd), if_neg (by rcases h with h | h <;> simp [h]), hrun]

/-- Row START of the run begins before the answer. -/
theorem programStart_run (hd : r.data.length = 4) (h : s.dispatcher = .directed ∨ s.dispatcher = .autonomous)
    (hrun : parseRun r.data = some run) : s.programStart r = (s.rowBegins run run.start, .ok []) := by
  rw [programStart, if_neg (not_not.mpr hd), if_neg (by rcases h with h | h <;> simp [h]), hrun]
  exact congrArg (·, Reply.ok []) (beginRow_eq (s := { s with program := { s.program with
    running := true, run, currentRow := run.start, pendingRun := none } }) rfl rfl)

theorem programRenew_badLength (hd : r.data.length ≠ 4) : s.programRenew r = (s, .bad .badValue) := if_pos hd

theorem programRenew_stopped (hd : r.data.length = 4) (h : s.program.running = false) :
    s.programRenew r = (s, .bad .wrongState) := by
  rw [programRenew, if_neg (not_not.mpr hd), if_pos (by simp [h])]

theorem programRenew_noRun (hd : r.data.length = 4) (h : s.program.running = true) (hrun : parseRun r.data = none) :
    s.programRenew r = (s, .bad .badValue) := by
  rw [programRenew, if_neg (not_not.mpr hd), if_neg (by simp [h]), hrun]

theorem programRenew_run (hd : r.data.length = 4) (h : s.program.running = true) (hrun : parseRun r.data = some run) :
    s.programRenew r = ({ s with program := { s.program with pendingRun := some run } }, .ok []) := by
  rw [programRenew, if_neg (not_not.mpr hd), if_neg (by simp [h]), hrun]

/-! ## What the arrival of a request leaves -/

@[simp] theorem heard_plant_program (src : Byte) : (s.heard .plant src).program = s.program := by
  obtain ⟨counters, deadline, h⟩ := heard_plant_eq (s := s) src
  rw [h]

@[simp] theorem heard_plant_schedule (src : Byte) : (s.heard .plant src).schedule = s.schedule := by
  obtain ⟨counters, deadline, h⟩ := heard_plant_eq (s := s) src
  rw [h]

theorem rowBegun_heard (src : Byte) (row : Byte) : (s.heard .plant src).rowBegun run row = s.rowBegun run row := by
  simp only [rowBegun, heard_now, heard_plant_schedule]

theorem rowBegins_heard_directed (src : Byte) (row : Byte) (hd : s.dispatcher = .directed) :
    (s.heard .plant src).rowBegins run row = { s.heard .plant src with program := s.rowBegun run row } := by
  rw [rowBegins, if_neg (by simp [hd]), rowBegun_heard]

theorem rowBegins_heard_autonomous (src : Byte) (row : Byte) (hd : s.dispatcher = .autonomous) :
    (s.heard .plant src).rowBegins run row =
      ({ s.heard .plant src with program := s.rowBegun run row } : State).scheduleClaims row s.schedule[row.toNat] := by
  rw [rowBegins, if_pos (by simp [hd]), rowBegun_heard]
  simp only [heard_plant_schedule]

end State

section

variable {h : RequestHead} {data : List Byte} {s : State}

theorem exec_programStart (hs : s.TakesRequests) (hd : data.length ≤ 60) :
    exec (.programStart h data) s = .next (State.answer h.tag 10 h.index
      ((s.heard .plant h.src).programStart { table := h.table, index := h.index, data := data })) :=
  congrArg Host.Outcome.next (takeRequest_answered hs hd (by decide))

theorem exec_programRenew (hs : s.TakesRequests) (hd : data.length ≤ 60) :
    exec (.programRenew h data) s = .next (State.answer h.tag 11 h.index
      ((s.heard .plant h.src).programRenew { table := h.table, index := h.index, data := data })) :=
  congrArg Host.Outcome.next (takeRequest_answered hs hd (by decide))

theorem exec_programStop (hs : s.TakesRequests) (hd : data.length ≤ 60) :
    exec (.programStop h data) s = .next (State.answer h.tag 12 h.index
      ((s.heard .plant h.src).programStop { table := h.table, index := h.index, data := data })) :=
  congrArg Host.Outcome.next (takeRequest_answered hs hd (by decide))

end

/-- Settles O51: each request by the checks that it meets; a row that begins is `rowBegins`, whose claims leave the
program alone. -/
theorem programRequestsSetTheRun : Obligations.ProgramRequestsSetTheRun := by
  intro h data s hs hlen s0 ended
  have hprogram : s0.program = s.program := State.heard_plant_program h.src
  have hdisp : s0.dispatcher = s.dispatcher := State.heard_dispatcher _ _
  have hstart := exec_programStart (h := h) hs hlen
  have hrenew := exec_programRenew (h := h) hs hlen
  have hstop := exec_programStop (h := h) hs hlen
  refine ⟨fun hd => ?_, fun hd => ?_, fun hd => ⟨?_, ?_⟩, ?_⟩
  · rw [hstop, State.programStop_ok hd]
    refine congrArg (fun p => Host.Outcome.next (({ s0 with program := p } : State).replied h 12 .ok [])) ?_
    rw [hprogram]
  · rw [hstop, State.programStop_badValue hd]
    rfl
  · rw [hstart, State.programStart_badLength hd]
    rfl
  · rw [hrenew, State.programRenew_badLength hd]
    rfl
  intro start loop length hdata inRange run begun
  have h4 : data.length = 4 := by rw [hdata]; rfl
  have hnone : ¬ inRange → parseRun data = none := fun hr => hdata ▸ parseRun_eq_none hr
  have hsome : inRange → parseRun data = some run := fun hr => hdata ▸ parseRun_eq_some hr.1 hr.2.1 hr.2.2
  refine ⟨fun hd => ?wrong, fun hd => ⟨fun hr => ?noRun, fun hr => ?run⟩, fun hr => ?stopped,
    fun hrunning => ⟨fun hr => ?renewNoRun, fun hr => ?renewed⟩⟩
  case wrong =>
    rw [hstart, State.programStart_wrongState h4 (hdisp ▸ hd)]
    rfl
  case noRun =>
    rw [hstart, State.programStart_noRun h4 (hdisp ▸ hd) (hnone hr)]
    rfl
  case run =>
    rw [hstart, State.programStart_run h4 (hdisp ▸ hd) (hsome hr)]
    have hreply : ∀ {t : State}, s0.rowBegins run start = t →
        Host.Outcome.next (State.answer h.tag 10 h.index (s0.rowBegins run start, Reply.ok [])) =
          (.next (t.replied h 10 .ok []) : Host.Outcome State Fault Refusal) := fun ht =>
      congrArg (fun t => Host.Outcome.next (State.replied h 10 .ok [] t)) ht
    refine ⟨fun hdir => hreply (State.rowBegins_heard_directed h.src start hdir),
      fun haut => ⟨hreply (State.rowBegins_heard_autonomous h.src start haut), s0.rowBegins run start, hreply rfl, ?_⟩⟩
    exact (State.program_rowBegins run).trans (State.rowBegun_heard h.src start)
  case stopped =>
    rw [hrenew, State.programRenew_stopped h4 (hprogram ▸ hr)]
    rfl
  case renewNoRun =>
    rw [hrenew, State.programRenew_noRun h4 (hprogram ▸ hrunning) (hnone hr)]
    rfl
  case renewed =>
    rw [hrenew, State.programRenew_run h4 (hprogram ▸ hrunning) (hsome hr)]
    exact congrArg (fun p : Program => Host.Outcome.next
      (({ s0 with program := { p with pendingRun := some run } } : State).replied h 11 .ok [])) hprogram

end Sys2Proof.Machine
end


section
/-!
PROOFS. Chapters 3 and 7: UNCOMMIT (R125), the end of a drain (R126), and PURGE_ORDER (R59).
-/

namespace Sys2Proof.Machine

namespace State

variable {s : State} {r : Request}

/-! ## The end of a drain (R126) -/

theorem drainCheck_done (hd : s.dispatcher = .draining)
    (hn : ∀ u, (s.unit u).transition = none ∧ (s.unit u).reserveClaim = none) :
    s.drainCheck = ({ s with dispatcher := .unplanned } : State).stopProgram.sendAlert .drainDone 0 0 :=
  if_pos ⟨hd, nothingLeft_iff.mpr hn⟩

/-! ## UNCOMMIT (R125, R160) -/

theorem uncommit_badValue (hd : r.data ≠ []) : s.uncommit r = (s, .bad .badValue) := if_pos hd

theorem uncommit_wrongState (hd : r.data = []) (h : s.dispatcher = .unplanned ∨ s.dispatcher = .draining) :
    s.uncommit r = (s, .bad .wrongState) := by
  rw [uncommit, if_neg (not_not.mpr hd), if_neg (by rcases h with h | h <;> simp [h])]

theorem uncommit_planned (hd : r.data = []) (h : s.dispatcher = .directed ∨ s.dispatcher = .autonomous) :
    s.uncommit r = (s.withdrawPlan, .ok [dispatcherCode s.withdrawPlan.dispatcher]) := by
  rw [uncommit, if_neg (not_not.mpr hd), if_pos h]

/-- The state that UNCOMMIT's withdrawals and start attempts leave, before it looks for what is in flight. -/
def planWithdrawn (s : State) : State :=
  ({ s with dispatcher := .draining, masterDeadline := none } : State).withdrawAndAttempt (fun _ => true) .uncommit

theorem keeps_planWithdrawn :
    Keeps ({ s with dispatcher := .draining, masterDeadline := none } : State) s.planWithdrawn :=
  inert_keeps.withdrawAndAttempt (inert_keeps.refl _)

theorem planWithdrawn_idle (ho : s.orders = []) :
    s.planWithdrawn = { s with dispatcher := .draining, masterDeadline := none } := withdrawAndAttempt_none ho

theorem withdrawPlan_done (h : s.planWithdrawn.nothingLeft = true) :
    s.withdrawPlan = ({ s.planWithdrawn with dispatcher := .unplanned } : State).stopProgram := if_pos h

theorem withdrawPlan_drains (h : ¬ s.planWithdrawn.nothingLeft = true) : s.withdrawPlan = s.planWithdrawn := if_neg h

/-! ## PURGE_ORDER (R59, R160) -/

theorem purgeOrder_badValue (hd : r.data ≠ []) : s.purgeOrder r = (s, .bad .badValue) := if_pos hd

theorem purgeOrder_badIndex (hd : r.data = []) (h : s.orders.filter (purgeable r.index) = []) :
    s.purgeOrder r = (s, .bad .badIndex) := (if_neg (not_not.mpr hd)).trans (if_pos h)

/-- The start attempts of the units whose orders a purge withdrew. -/
def purged (tag : Half) (s : State) : State :=
  (s.orders.filter (purgeable tag)).foldl (fun s o => s.attemptFor o) (s.withdrawOrders (purgeable tag) .purged)

theorem purgeOrder_ok (hd : r.data = []) (h : s.orders.filter (purgeable r.index) ≠ []) :
    s.purgeOrder r = (s.purged r.index, .ok [natByte (s.orders.filter (purgeable r.index)).length]) :=
  (if_neg (not_not.mpr hd)).trans (if_neg h)

theorem orders_purged_sublist (tag : Half) :
    (s.purged tag).orders.Sublist (s.orders.filter fun o => !purgeable tag o) := by
  have hattempts : Moves false (s.withdrawOrders (purgeable tag) .purged) (s.purged tag) :=
    Moves.foldl (fun _ o => moves_attemptFor o) _ _
  exact orders_withdrawOrders ▸ hattempts.orders_sublist.1

theorem filter_orders_purged (tag : Half) : (s.purged tag).orders.filter (purgeable tag) = [] := by
  refine List.filter_eq_nil_iff.mpr fun o ho => ?_
  have hkept := List.mem_filter.mp ((orders_purged_sublist tag).subset ho)
  simpa using hkept.2

/-- A pool order leaves no cut to clear and no unit to attempt. -/
theorem purged_pool {tag : Half} {o : Order} {k : Fin 4} (h : s.orders.filter (purgeable tag) = [o])
    (ht : o.target = .pool k) :
    s.purged tag = ({ s with orders := s.orders.filter fun q => !purgeable tag q } : State).sendStatus o.tag .withdrawn
      .purged 0xFF (modeCode o.mode) o.origin := by
  have hwithdrawn : s.withdrawOrders (purgeable tag) .purged =
      (({ s with orders := s.orders.filter fun q => !purgeable tag q } : State).clearCutOf o).sendOrderStatus o
        .withdrawn .purged := by
    unfold withdrawOrders
    rw [h]
    exact List.foldl_cons ..
  rw [purged, h, List.foldl_cons, List.foldl_nil, attemptFor_pool ht, hwithdrawn]
  unfold clearCutOf sendOrderStatus
  rw [ht]
  rfl

end State

section

variable {h : RequestHead} {data : List Byte} {s : State}

theorem exec_uncommit (hs : s.TakesRequests) (hd : data.length ≤ 60) :
    exec (.uncommit h data) s = .next (State.answer h.tag 6 h.index
      ((s.heard .plant h.src).uncommit { table := h.table, index := h.index, data := data })) :=
  congrArg Host.Outcome.next (takeRequest_answered hs hd (by decide))

theorem exec_purgeOrder (hs : s.TakesRequests) (hd : data.length ≤ 60) :
    exec (.purgeOrder h data) s = .next (State.answer h.tag 9 h.index
      ((s.heard .plant h.src).purgeOrder { table := h.table, index := h.index, data := data })) :=
  congrArg Host.Outcome.next (takeRequest_answered hs hd (by decide))

end

/-- Settles O49: UNCOMMIT by what its withdrawals leave in flight (`planWithdrawn`), PURGE_ORDER by the orders with
its tag. -/
theorem uncommitAndPurgeWithdrawOrders : Obligations.UncommitAndPurgeWithdrawOrders := by
  refine ⟨fun h data s hs hlen => ?uncommit, fun h data s hs hlen => ?purge, fun s => ⟨State.drainCheck_done, ?drain⟩⟩
  case uncommit =>
    intro s0
    have hdisp : s0.dispatcher = s.dispatcher := State.heard_dispatcher _ _
    have hprogram : s0.program = s.program := State.heard_plant_program h.src
    have hunit : ∀ u, s0.unit u = s.unit u := fun u => State.unit_heard _ _ u
    rw [exec_uncommit hs hlen]
    refine ⟨fun hd => congrArg (Host.Outcome.next ∘ State.answer h.tag 6 h.index) (State.uncommit_badValue hd),
      fun hd => ⟨fun hstate => ?_, fun hstate => ?_⟩⟩
    · exact congrArg (Host.Outcome.next ∘ State.answer h.tag 6 h.index) (State.uncommit_wrongState hd (hdisp ▸ hstate))
    have hkeeps := State.keeps_planWithdrawn (s := s0)
    rw [State.uncommit_planned hd (hdisp ▸ hstate)]
    refine ⟨⟨s0.withdrawPlan, _, rfl, ?_⟩, fun ho => ?_⟩
    · have horders : s0.planWithdrawn.orders = [] := State.withdrawAll_orders _
      by_cases hn : s0.planWithdrawn.nothingLeft = true
      · rw [State.withdrawPlan_done hn]
        exact ⟨horders, hkeeps.masterDeadline, .inl ⟨rfl, rfl, rfl, nothingLeft_iff.mp hn⟩⟩
      · rw [State.withdrawPlan_drains hn]
        exact ⟨horders, hkeeps.masterDeadline, .inr ⟨hkeeps.dispatcher, congrArg dispatcherCode hkeeps.dispatcher,
          hkeeps.program.trans hprogram, not_nothingLeft hn⟩⟩
    · have hidle : s0.planWithdrawn = { s0 with dispatcher := .draining, masterDeadline := none } :=
        State.planWithdrawn_idle ((State.heard_orders _ _).trans ho)
      have hleft : s0.planWithdrawn.nothingLeft = true ↔
          ∀ u, (s.unit u).transition = none ∧ (s.unit u).reserveClaim = none := by
        rw [hidle, nothingLeft_iff]
        exact forall_congr' fun u => by rw [← hunit u]; exact Iff.rfl
      refine ⟨fun hn => ?_, fun ⟨u, hu⟩ => ?_⟩
      · rw [State.withdrawPlan_done (hleft.mpr hn), hidle, ← hprogram]
        rfl
      · rw [State.withdrawPlan_drains fun hn => not_and_or.mpr hu (hleft.mp hn u), hidle]
        rfl
  case purge =>
    intro s0 tagged
    have htagged : tagged = State.purgeable h.index := funext fun o => Bool.decide_and ..
    have horders : s0.orders = s.orders := State.heard_orders _ _
    rw [exec_purgeOrder hs hlen, htagged, ← horders]
    refine ⟨fun hd => congrArg (Host.Outcome.next ∘ State.answer h.tag 9 h.index) (State.purgeOrder_badValue hd),
      fun hd => ⟨fun hnone => ?_, fun hsome => ?_, fun o k hone ht => ?_⟩⟩
    · exact congrArg (Host.Outcome.next ∘ State.answer h.tag 9 h.index) (State.purgeOrder_badIndex hd hnone)
    · rw [State.purgeOrder_ok hd hsome]
      exact ⟨_, rfl, State.filter_orders_purged h.index,
        (State.orders_purged_sublist h.index).trans List.filter_sublist⟩
    · have horigin : o.origin = .dispatch := by
        have hmem : o ∈ s0.orders.filter (State.purgeable h.index) := by rw [hone]; exact List.mem_singleton_self o
        have hp := (List.mem_filter.mp hmem).2
        rw [← htagged] at hp
        exact (of_decide_eq_true hp).1
      rw [State.purgeOrder_ok hd (by rw [hone]; exact List.cons_ne_nil _ _), State.purged_pool hone ht, horigin]
      dsimp only
      rw [hone]
      rfl
  case drain =>
    rintro (hd | ⟨u, hu⟩)
    · exact State.drainCheck_of_not_draining hd
    · exact State.drainCheck_of_left hu

end Sys2Proof.Machine
end


section
/-!
PROOFS. Chapter 1: SET_OUT (R18) and FORCE_MODE (R20, R21).
-/

namespace Sys2Proof.Machine

namespace State

variable {s : State} {r : Request} {u : UnitNo}

/-! ## The unit that INDEX names (R160) -/

theorem unitIndex_eq_none {i : Half} (h : 8 ≤ i.toNat ∨ s.plan.station.unitCount.toNat ≤ i.toNat) :
    s.unitIndex i = none := by
  unfold unitIndex
  split
  · next h8 =>
    refine if_neg fun hin => ?_
    have hin : i.toNat < s.plan.station.unitCount.toNat := of_decide_eq_true hin
    omega
  · rfl

theorem unitIndex_eq_some {i : Half} (hu : u.val = i.toNat) (hin : u.val < s.plan.station.unitCount.toNat) :
    s.unitIndex i = some u := by
  have h8 : i.toNat < 8 := hu ▸ u.isLt
  obtain rfl : u = ⟨i.toNat, h8⟩ := Fin.ext hu
  exact (dif_pos h8).trans (if_pos (decide_eq_true hin))

/-! ## SET_OUT (R18, R160) -/

theorem setOut_badIndex (h : s.unitIndex r.index = none) : s.setOut r = (s, .bad .badIndex) := by rw [setOut, h]

theorem setOut_badValue (hu : s.unitIndex r.index = some u) (h : ∀ b, r.data = [b] → 1 < b.toNat) :
    s.setOut r = (s, .bad .badValue) := by
  rw [setOut, hu]
  dsimp only
  split
  next b hb => rw [yesNo_eq_none (h b hb)]
  next => rfl

theorem setOut_busy (hu : s.unitIndex r.index = some u) (hd : r.data = [1]) (ht : (s.unit u).transition ≠ none) :
    s.setOut r = (s, .bad .busy) := by
  rw [setOut, hu, hd]
  exact if_pos (by simpa [Option.isSome_iff_ne_none] using ht)

theorem setOut_set (hu : s.unitIndex r.index = some u) (hd : r.data = [1]) (ht : (s.unit u).transition = none) :
    s.setOut r = ((s.writeOutSource u fun x => { x with configuredOut := true }).drainCheck, .ok []) := by
  rw [setOut, hu, hd]
  exact if_neg (by simp [ht])

theorem setOut_clear (hu : s.unitIndex r.index = some u) (hd : r.data = [0]) :
    s.setOut r = ((s.writeOutSource u fun x => { x with configuredOut := false }).drainCheck, .ok []) := by
  rw [setOut, hu, hd]
  rfl

/-- What a write of CONFIGURED_OUT leaves that takes the unit out (R17). -/
theorem writeOutSource_setOut (ht : (s.unit u).transition = none) (ho : (s.unit u).outInput = false)
    (hc : (s.unit u).configuredOut = false) : s.writeOutSource u (fun x => { x with configuredOut := true }) =
      (s.updUnit u fun r => { r with configuredOut := true, mode := .out }).waitingFails u none .unitOut := by
  rw [writeOutSource_enters (by simp [UnitRecord.outCondition, ho, hc]) (by simp [UnitRecord.outCondition]), enterOut_eq,
    if_pos (by rw [unit_updUnit_self, ht]), takenOut, updUnit_updUnit, endTransition_none (by rw [unit_updUnit_self, ht])]

/-- A rewritten source that leaves the out condition as it is only writes the record. -/
theorem writeOutSource_configured {b : Bool} (hs : s.DispatcherStateSound)
    (h : (s.unit u).outInput = true ∨ (s.unit u).configuredOut = b) :
    (s.writeOutSource u fun x => { x with configuredOut := b }).drainCheck =
      s.updUnit u fun x => { x with configuredOut := b } := by
  rw [writeOutSource_same (by rcases h with h | h <;> simp [UnitRecord.outCondition, h])]
  exact drainCheck_of_sound ((calm_updUnit ⟨rfl, rfl, rfl⟩).dispatcherStateSound hs)

theorem writeOutSource_clearOut (hs : s.DispatcherStateSound) (ho : (s.unit u).outInput = false)
    (hc : (s.unit u).configuredOut = true) :
    (s.writeOutSource u fun x => { x with configuredOut := false }).drainCheck = s.updUnit u fun r =>
      { r with configuredOut := false, mode := if (s.unit u).tripInput then .tripped else .unknown } := by
  rw [writeOutSource_leaves (by simp [UnitRecord.outCondition, hc]) (by simp [UnitRecord.outCondition, ho]), leaveOut_eq,
    updUnit_updUnit]
  exact (drainCheck_of_sound ((calm_updUnit ⟨rfl, rfl, rfl⟩).dispatcherStateSound hs)).trans (updUnit_congr rfl)

/-- A unit without a transition that is taken out loses its reserve claim and its queued orders (R17). -/
theorem waitingFails_takenOut {f : UnitRecord → UnitRecord} :
    ((s.updUnit u f).waitingFails u none .unitOut).unit u = { f (s.unit u) with reserveClaim := none } ∧
      (∀ v, v ≠ u → ((s.updUnit u f).waitingFails u none .unitOut).unit v = s.unit v) ∧
      ((s.updUnit u f).waitingFails u none .unitOut).orders = s.orders.filter fun o => decide (o.target ≠ .unit u) := by
  refine ⟨?_, fun v hv => ?_, ?_⟩
  · obtain ⟨c, hu, hc⟩ := unit_waitingFails_self (s := s.updUnit u f) (u := u) (spared := none) (r := .unitOut)
    obtain rfl : c = none := Option.eq_none_iff_forall_ne_some.mpr fun x hx => absurd (hc x hx).2 nofun
    rw [hu, unit_updUnit_self]
  · rw [unit_waitingFails_of_ne hv, unit_updUnit_of_ne _ hv]
  · rw [orders_waitingFails]
    exact List.filter_congr fun o _ => by simp

/-! ## FORCE_MODE (R20, R160) -/

theorem forceMode_badIndex (h : s.unitIndex r.index = none) : s.forceMode r = (s, .bad .badIndex) := by
  rw [forceMode, h]

theorem forceMode_badValue (hu : s.unitIndex r.index = some u) (h : ∀ b, r.data = [b] → 4 < b.toNat) :
    s.forceMode r = (s, .bad .badValue) := by
  rw [forceMode, hu]
  dsimp only
  split
  next b hb => rw [modeOf_eq_none (h b hb)]
  next => rfl

theorem forceMode_wrongState {m : Mode} (hu : s.unitIndex r.index = some u) (hd : r.data = [modeCode m])
    (h : (s.unit u).mode ≠ .unknown) : s.forceMode r = (s, .bad .wrongState) := by
  rw [forceMode, hu, hd]
  dsimp only
  rw [modeOf_modeCode]
  exact if_neg h

theorem forceMode_forces {m : Mode} (hu : s.unitIndex r.index = some u) (hd : r.data = [modeCode m])
    (h : (s.unit u).mode = .unknown) :
    s.forceMode r = (((s.changeMode u (.settled m)).startAttempt u).drainCheck, .ok []) := by
  rw [forceMode, hu, hd]
  dsimp only
  rw [modeOf_modeCode]
  exact if_pos h

theorem mode_forced (m : Mode) :
    ((((s.changeMode u (.settled m)).startAttempt u).drainCheck).unit u).mode = .settled m := by
  rw [unit_drainCheck, (inert_keeps.startAttempt (inert_keeps.refl (s.changeMode u (.settled m)))).mode,
    unit_changeMode_self]

theorem forced_idle {m : Mode} (hs : s.DispatcherStateSound) (ho : s.orders = [])
    (hr : (s.unit u).reserveClaim = none) :
    ((s.changeMode u (.settled m)).startAttempt u).drainCheck = s.changeMode u (.settled m) := by
  rw [startAttempt_idle (by rw [unit_changeMode_self, hr]) ((calm_changeMode _).orders.trans ho)]
  exact drainCheck_of_sound ((calm_changeMode _).dispatcherStateSound hs)

end State

section

variable {h : RequestHead} {data : List Byte} {s : State}

theorem exec_setOut (hs : s.TakesRequests) (hd : data.length ≤ 60) :
    exec (.setOut h data) s = .next (State.answer h.tag 7 h.index
      ((s.heard .plant h.src).setOut { table := h.table, index := h.index, data := data })) :=
  congrArg Host.Outcome.next (takeRequest_answered hs hd (by decide))

theorem exec_forceMode (hs : s.TakesRequests) (hd : data.length ≤ 60) :
    exec (.forceMode h data) s = .next (State.answer h.tag 8 h.index
      ((s.heard .plant h.src).forceMode { table := h.table, index := h.index, data := data })) :=
  congrArg Host.Outcome.next (takeRequest_answered hs hd (by decide))

end

/-- Settles O50: SET_OUT by whether it turns the out condition, FORCE_MODE by the mode it finds; a sound dispatcher
state has no drain to end. -/
theorem setOutAndForceModeWriteTheUnit : Obligations.SetOutAndForceModeWriteTheUnit := by
  have heard : ∀ (src : Byte) (s : State) (u : UnitNo), (s.heard .plant src).unit u = s.unit u := fun src s u =>
    State.unit_heard .plant src u
  refine ⟨fun h data s hs hlen hsound => ?setOut, fun h data s hs hlen hsound => ?forceMode, fun h u s hs hu hin => ?waiting⟩
  case setOut =>
    intro s0 i
    have hsound0 : s0.DispatcherStateSound := (State.calm_heard _ _).dispatcherStateSound hsound
    have hplan : s0.plan = s.plan := State.heard_plan _ _
    have hexec : ∀ {a : State × Reply}, s0.setOut { table := h.table, index := h.index, data := data } = a →
        exec i s = .next (State.answer h.tag 7 h.index a) := fun ha => ha ▸ exec_setOut hs hlen
    refine ⟨fun hi => hexec (State.setOut_badIndex (State.unitIndex_eq_none (hplan ▸ hi))), fun u hu hin => ?_⟩
    have hunit : s0.unit u = s.unit u := heard h.src s u
    have hindex : s0.unitIndex h.index = some u := State.unitIndex_eq_some hu (hplan ▸ hin)
    refine ⟨fun hb => hexec (State.setOut_badValue hindex hb), fun hd => ⟨fun ht => ?_, fun ht hout => ?_,
      fun ht ho hc => ?_⟩, fun hd => ⟨fun ho hc => ?_, fun hout => ?_⟩⟩
    · exact hexec (State.setOut_busy hindex hd (hunit ▸ ht))
    · rw [hexec (State.setOut_set hindex hd (hunit ▸ ht)), State.writeOutSource_configured hsound0 (hunit ▸ hout)]
      rfl
    · refine ⟨_, hexec (State.setOut_set hindex hd (hunit ▸ ht)), ?_⟩
      rw [State.writeOutSource_setOut (hunit ▸ ht) (hunit ▸ ho) (hunit ▸ hc), State.orders_drainCheck]
      simp only [State.unit_drainCheck]
      obtain ⟨hself, hother, horders⟩ :=
        State.waitingFails_takenOut (s := s0) (u := u) (f := fun r => { r with configuredOut := true, mode := .out })
      refine ⟨hself.trans (by rw [hunit]), fun v hv => (hother v hv).trans (heard h.src s v), ?_⟩
      exact horders.trans (by rw [State.heard_orders])
    · rw [hexec (State.setOut_clear hindex hd), State.writeOutSource_clearOut hsound0 (hunit ▸ ho) (hunit ▸ hc), hunit]
      rfl
    · rw [hexec (State.setOut_clear hindex hd), State.writeOutSource_configured hsound0 (hunit ▸ hout)]
      rfl
  case forceMode =>
    intro s0 i
    have hsound0 : s0.DispatcherStateSound := (State.calm_heard _ _).dispatcherStateSound hsound
    have hplan : s0.plan = s.plan := State.heard_plan _ _
    have hexec : ∀ {a : State × Reply}, s0.forceMode { table := h.table, index := h.index, data := data } = a →
        exec i s = .next (State.answer h.tag 8 h.index a) := fun ha => ha ▸ exec_forceMode hs hlen
    refine ⟨fun hi => hexec (State.forceMode_badIndex (State.unitIndex_eq_none (hplan ▸ hi))), fun u hu hin => ?_⟩
    have hunit : s0.unit u = s.unit u := heard h.src s u
    have hindex : s0.unitIndex h.index = some u := State.unitIndex_eq_some hu (hplan ▸ hin)
    refine ⟨fun hb => hexec (State.forceMode_badValue hindex hb), fun m hd => ⟨fun hm => ?_, fun hm => ⟨?_, fun ho hr => ?_⟩⟩⟩
    · exact hexec (State.forceMode_wrongState hindex hd (hunit ▸ hm))
    · exact ⟨_, hexec (State.forceMode_forces hindex hd (hunit ▸ hm)), State.mode_forced m⟩
    · rw [hexec (State.forceMode_forces hindex hd (hunit ▸ hm)),
        State.forced_idle hsound0 ((State.heard_orders _ _).trans ho) (hunit ▸ hr)]
      rfl
  case waiting =>
    intro s0
    have hunit : s0.unit u = s.unit u := heard h.src s u
    have hindex : s0.unitIndex h.index = some u := State.unitIndex_eq_some hu (by rw [State.heard_plan]; exact hin)
    refine ⟨fun ht ho hc => ?_, fun m hm => ?_⟩
    · rw [exec_setOut hs (by simp), State.setOut_set (r := { table := h.table, index := h.index, data := [1] }) hindex rfl
        (hunit ▸ ht), State.writeOutSource_setOut (hunit ▸ ht) (hunit ▸ ho) (hunit ▸ hc)]
      rfl
    · rw [exec_forceMode hs (by simp),
        State.forceMode_forces (r := { table := h.table, index := h.index, data := [modeCode m] }) hindex rfl (hunit ▸ hm)]
      rfl

end Sys2Proof.Machine
end


section
/-!
PROOFS. Chapter 10: each field of an entry is read from the byte that carries it, and from no other (R165).
-/

namespace Sys2Proof

/-! ## Fields of several bytes -/

@[simp] theorem hiByte_half (hi lo : Byte) : hiByte (half hi lo) = hi := BitVec.extractLsb'_append_eq_left

@[simp] theorem loByte_half (hi lo : Byte) : loByte (half hi lo) = lo := BitVec.extractLsb'_append_eq_right

theorem halfBytes_half (hi lo : Byte) : halfBytes (half hi lo) = [hi, lo] := by
  rw [halfBytes, hiByte_half, loByte_half]

theorem wordBytes_word (b3 b2 b1 b0 : Byte) : wordBytes (word b3 b2 b1 b0) = [b3, b2, b1, b0] := by
  have h3 : BitVec.extractLsb' 24 8 (word b3 b2 b1 b0) = b3 :=
    (BitVec.extractLsb'_append_eq_of_le (by decide)).trans <|
      (BitVec.extractLsb'_append_eq_of_le (by decide)).trans BitVec.extractLsb'_append_eq_left
  have h2 : BitVec.extractLsb' 16 8 (word b3 b2 b1 b0) = b2 :=
    (BitVec.extractLsb'_append_eq_of_le (by decide)).trans <|
      (BitVec.extractLsb'_append_eq_of_le (by decide)).trans BitVec.extractLsb'_append_eq_right
  have h1 : BitVec.extractLsb' 8 8 (word b3 b2 b1 b0) = b1 :=
    (BitVec.extractLsb'_append_eq_of_le (by decide)).trans BitVec.extractLsb'_append_eq_right
  have h0 : BitVec.extractLsb' 0 8 (word b3 b2 b1 b0) = b0 := BitVec.extractLsb'_append_eq_right
  rw [wordBytes, h3, h2, h1, h0]

theorem toNat_natByte {n : Nat} (h : n < 256) : (natByte n).toNat = n := by
  rw [natByte, BitVec.toNat_ofNat, Nat.mod_eq_of_lt h]

theorem natByte_toNat (b : Byte) : natByte b.toNat = b := by simp [natByte]

/-! ## Codes: the value that a byte spells -/

theorem yesNo_eq_some_iff {b : Byte} {v : Bool} : yesNo b = some v ↔ b = boolByte v := by
  constructor
  · intro h
    unfold yesNo at h
    split_ifs at h with h0 h1 <;> cases h
    · exact h0
    · exact h1
  · rintro rfl
    cases v <;> rfl

@[simp] theorem yesNo_boolByte (v : Bool) : yesNo (boolByte v) = some v := yesNo_eq_some_iff.mpr rfl

namespace Machine

theorem modeOf_eq_some_iff {b : Byte} {m : Mode} : modeOf b = some m ↔ b = modeCode m := by
  refine ⟨fun h => ?_, fun h => h ▸ modeOf_modeCode m⟩
  unfold modeOf at h
  split_ifs at h <;> cases h <;> assumption

theorem resourcesOf_eq_some_iff {b : Byte} {x : Resources} : resourcesOf b = some x ↔ b = resourcesCode x := by
  constructor
  · intro h
    unfold resourcesOf at h
    split_ifs at h <;> cases h <;> assumption
  · rintro rfl
    cases x <;> rfl

@[simp] theorem resourcesOf_resourcesCode (x : Resources) : resourcesOf (resourcesCode x) = some x :=
  resourcesOf_eq_some_iff.mpr rfl

theorem directionOf_eq_some_iff {b : Byte} {x : Direction} : directionOf b = some x ↔ b = directionCode x := by
  constructor
  · intro h
    unfold directionOf at h
    split_ifs at h <;> cases h <;> assumption
  · rintro rfl
    cases x <;> rfl

@[simp] theorem directionOf_directionCode (x : Direction) : directionOf (directionCode x) = some x :=
  directionOf_eq_some_iff.mpr rfl

theorem actionOf_eq_some_iff {b : Byte} {x : GuardAction} : actionOf b = some x ↔ b = actionCode x := by
  constructor
  · intro h
    unfold actionOf at h
    split_ifs at h <;> cases h <;> assumption
  · rintro rfl
    cases x <;> rfl

@[simp] theorem actionOf_actionCode (x : GuardAction) : actionOf (actionCode x) = some x :=
  actionOf_eq_some_iff.mpr rfl

theorem finOf_eq_some_iff {n : Nat} (hn : n ≤ 256) {b : Byte} {i : Fin n} : finOf n b = some i ↔ b = natByte i.val := by
  unfold finOf
  constructor
  · intro h
    split_ifs at h
    cases h
    exact (natByte_toNat b).symm
  · rintro rfl
    have hval : (natByte i.val).toNat = i.val := toNat_natByte (by omega)
    rw [dif_pos (by rw [hval]; exact i.isLt)]
    exact congrArg some (Fin.ext hval)

@[simp] theorem finOf_natByte {n : Nat} (hn : n ≤ 256) (i : Fin n) : finOf n (natByte i.val) = some i :=
  (finOf_eq_some_iff hn).mpr rfl

/-- The events stand in the order of their codes (R173). -/
@[simp] theorem eventOfCode_natByte (e : DutyEvent) : eventOfCode (natByte (eventCode e)) = some e := by cases e <;> rfl

theorem eventOfCode_isSome {b : Byte} (h : b.toNat < 16) : ∃ e, eventOfCode b = some e :=
  ⟨_, List.getElem?_eq_getElem (by simpa using h)⟩

theorem eventOfCode_none {b : Byte} (h : 16 ≤ b.toNat) : eventOfCode b = none :=
  List.getElem?_eq_none (by simpa using h)

theorem eventOfCode_eq_some_iff {b : Byte} {e : DutyEvent} : eventOfCode b = some e ↔ b = natByte (eventCode e) := by
  refine ⟨fun h => ?_, fun h => h ▸ eventOfCode_natByte e⟩
  have hlt : b.toNat < 16 := Nat.lt_of_not_le fun hge => by simp [eventOfCode_none hge] at h
  obtain ⟨k, hk, rfl⟩ : ∃ k, k < 16 ∧ b = natByte k := ⟨b.toNat, hlt, (natByte_toNat b).symm⟩
  interval_cases k <;> cases h <;> rfl

theorem reserveTargetOf_eq_some_iff {b : Byte} {t : Option Mode} :
    reserveTargetOf b = some t ↔ b = reserveTargetByte t := by
  unfold reserveTargetOf
  constructor
  · intro h
    split_ifs at h with hff
    · cases h
      exact hff
    · obtain ⟨m, hm, rfl⟩ := Option.map_eq_some_iff.mp h
      exact modeOf_eq_some_iff.mp hm
  · rintro rfl
    cases t with
    | none => rfl
    | some m => cases m <;> rfl

@[simp] theorem reserveTargetOf_reserveTargetByte (t : Option Mode) : reserveTargetOf (reserveTargetByte t) = some t :=
  reserveTargetOf_eq_some_iff.mpr rfl

theorem entryModeOf_eq_some_iff {b : Byte} {t : Option Mode} : entryModeOf b = some t ↔ b = entryModeByte t := by
  unfold entryModeOf
  constructor
  · intro h
    split_ifs at h with hff
    · cases h
      exact hff
    · obtain ⟨m, hm, rfl⟩ := Option.map_eq_some_iff.mp h
      exact modeOf_eq_some_iff.mp hm
  · rintro rfl
    cases t with
    | none => rfl
    | some m => cases m <;> rfl

@[simp] theorem entryModeOf_entryModeByte (t : Option Mode) : entryModeOf (entryModeByte t) = some t :=
  entryModeOf_eq_some_iff.mpr rfl

/-- KIND 0x00 is ANY, and no kind below 0x10 is given (R139). -/
theorem matchKindOf_eq_some_iff {b : Byte} {k : Option Byte} :
    matchKindOf b = some k ↔ b = k.getD 0 ∧ ∀ x, k = some x → 0x10 ≤ x.toNat := by
  unfold matchKindOf
  constructor
  · intro h
    split_ifs at h with h0 h10 <;> cases h
    · exact ⟨h0, nofun⟩
    · refine ⟨rfl, ?_⟩
      rintro x ⟨⟩
      exact h10
  · rintro ⟨rfl, hk⟩
    cases k with
    | none => rfl
    | some x =>
      have hx : 0x10 ≤ x.toNat := hk x rfl
      have h0 : x ≠ 0 := by
        rintro rfl
        simp at hx
      exact (if_neg h0).trans (if_pos hx)

/-- LEN 0xFF is ANY, and no length above 64 is given (R139). -/
theorem matchLenOf_eq_some_iff {b : Byte} {n : Option Byte} :
    matchLenOf b = some n ↔ b = n.getD 0xFF ∧ ∀ x, n = some x → x.toNat ≤ 64 := by
  unfold matchLenOf
  constructor
  · intro h
    split_ifs at h with hff h64 <;> cases h
    · exact ⟨hff, nofun⟩
    · refine ⟨rfl, ?_⟩
      rintro x ⟨⟩
      exact h64
  · rintro ⟨rfl, hn⟩
    cases n with
    | none => rfl
    | some x =>
      have hx : x.toNat ≤ 64 := hn x rfl
      have hff : x ≠ 0xFF := by
        rintro rfl
        simp at hx
      exact (if_neg hff).trans (if_pos hx)

theorem within_eq_some_iff {α : Type} {ok : Bool} {a b : α} : within ok a = some b ↔ ok = true ∧ a = b := by
  cases ok <;> simp [within]

/-! ## Codes: the bytes that spell a value -/

theorem exists_yesNo_iff {b : Byte} : (∃ v, yesNo b = some v) ↔ b.toNat ≤ 1 :=
  ⟨fun ⟨v, h⟩ => Nat.le_of_not_lt fun h1 => by simp [yesNo_eq_none h1] at h, fun h => ⟨_, yesNo_eq_some h⟩⟩

theorem exists_modeOf_iff {b : Byte} : (∃ m, modeOf b = some m) ↔ b.toNat ≤ 4 :=
  ⟨fun ⟨m, h⟩ => Nat.le_of_not_lt fun h4 => by simp [modeOf_eq_none h4] at h,
    fun h => (exists_modeOf h).imp fun _ hm => hm.1⟩

theorem exists_resourcesOf_iff {b : Byte} : (∃ x, resourcesOf b = some x) ↔ b.toNat ≤ 3 := by
  simp only [resourcesOf_eq_some_iff]
  constructor
  · rintro ⟨x, rfl⟩
    cases x <;> decide
  · intro h
    obtain ⟨k, hk, rfl⟩ : ∃ k, k < 4 ∧ b = natByte k := ⟨b.toNat, by omega, (natByte_toNat b).symm⟩
    interval_cases k
    · exact ⟨.none, rfl⟩
    · exact ⟨.converter, rfl⟩
    · exact ⟨.waterway, rfl⟩
    · exact ⟨.both, rfl⟩

theorem exists_directionOf_iff {b : Byte} : (∃ x, directionOf b = some x) ↔ b.toNat ≤ 2 := by
  simp only [directionOf_eq_some_iff]
  constructor
  · rintro ⟨x, rfl⟩
    cases x <;> decide
  · intro h
    obtain ⟨k, hk, rfl⟩ : ∃ k, k < 3 ∧ b = natByte k := ⟨b.toNat, by omega, (natByte_toNat b).symm⟩
    interval_cases k
    · exact ⟨.down, rfl⟩
    · exact ⟨.up, rfl⟩
    · exact ⟨.both, rfl⟩

theorem exists_actionOf_iff {b : Byte} : (∃ x, actionOf b = some x) ↔ b.toNat ≤ 2 := by
  simp only [actionOf_eq_some_iff]
  constructor
  · rintro ⟨x, rfl⟩
    cases x <;> decide
  · intro h
    obtain ⟨k, hk, rfl⟩ : ∃ k, k < 3 ∧ b = natByte k := ⟨b.toNat, by omega, (natByte_toNat b).symm⟩
    interval_cases k
    · exact ⟨.forward, rfl⟩
    · exact ⟨.drop, rfl⟩
    · exact ⟨.hold, rfl⟩

theorem exists_finOf_iff {n : Nat} {b : Byte} : (∃ i, finOf n b = some i) ↔ b.toNat < n := by
  unfold finOf
  split <;> simp [*]

theorem exists_eventOfCode_iff {b : Byte} : (∃ e, eventOfCode b = some e) ↔ b.toNat ≤ 15 := by
  refine ⟨fun ⟨e, h⟩ => Nat.le_of_not_lt fun hge => ?_, fun h => eventOfCode_isSome (by omega)⟩
  simp [eventOfCode_none hge] at h

theorem exists_reserveTargetOf_iff {b : Byte} : (∃ t, reserveTargetOf b = some t) ↔ b.toNat ≤ 4 ∨ b.toNat = 255 := by
  unfold reserveTargetOf
  split_ifs with hff
  · simp [hff]
  · have hne : b.toNat ≠ 255 := fun h => hff (BitVec.eq_of_toNat_eq h)
    simp only [Option.map_eq_some_iff, or_iff_left hne, ← exists_modeOf_iff]
    exact ⟨fun ⟨_, m, hm, _⟩ => ⟨m, hm⟩, fun ⟨m, hm⟩ => ⟨_, m, hm, rfl⟩⟩

theorem exists_entryModeOf_iff {b : Byte} : (∃ t, entryModeOf b = some t) ↔ b.toNat ≤ 4 ∨ b.toNat = 15 := by
  unfold entryModeOf
  split_ifs with hff
  · simp [hff]
  · have hne : b.toNat ≠ 15 := fun h => hff (BitVec.eq_of_toNat_eq h)
    simp only [Option.map_eq_some_iff, or_iff_left hne, ← exists_modeOf_iff]
    exact ⟨fun ⟨_, m, hm, _⟩ => ⟨m, hm⟩, fun ⟨m, hm⟩ => ⟨_, m, hm, rfl⟩⟩

theorem exists_matchKindOf_iff {b : Byte} : (∃ k, matchKindOf b = some k) ↔ b.toNat = 0 ∨ 16 ≤ b.toNat := by
  unfold matchKindOf
  split_ifs with h0 h10
  · simp [h0]
  · simp [h10]
  · have hne : b.toNat ≠ 0 := fun h => h0 (BitVec.eq_of_toNat_eq h)
    simp [h10, hne]

theorem exists_matchLenOf_iff {b : Byte} : (∃ n, matchLenOf b = some n) ↔ b.toNat ≤ 64 ∨ b.toNat = 255 := by
  unfold matchLenOf
  split_ifs with hff h64
  · simp [hff]
  · simp [h64]
  · have hne : b.toNat ≠ 255 := fun h => hff (BitVec.eq_of_toNat_eq h)
    simp [h64, hne]

theorem exists_bind_iff {α β : Type} {x : Option α} {f : α → Option β} :
    (∃ e, x.bind f = some e) ↔ ∃ a, x = some a ∧ ∃ e, f a = some e := by
  cases x <;> simp

theorem exists_within_iff {α : Type} {ok : Bool} {a : α} : (∃ e, within ok a = some e) ↔ ok = true := by
  cases ok <;> simp [within]

end Machine
end Sys2Proof
end


section
/-!
PROOFS. Chapter 10: the DATA that each table's write accepts is the entry as it is read, within its ranges (R164, R165).
-/

namespace Sys2Proof.Machine

variable {data : List Byte}

/-! ## The plant table (R118) -/

theorem parseStation_eq_some_iff {e : Station} : parseStation data = some e ↔
    (∃ f, data = (stationBytes e).take 15 ++ [f]) ∧ 1 ≤ e.unitCount.toNat ∧ e.unitCount.toNat ≤ 8 ∧
    1 ≤ e.waterwayCount.toNat ∧ e.waterwayCount.toNat ≤ 2 ∧ e.converterCount.toNat ≤ 2 ∧
    e.masterSilence.toNat ≤ 6000 ∧ 1 ≤ e.waitLimitSchedule.toNat ∧ e.waitLimitSchedule.toNat ≤ 3600 ∧
    1 ≤ e.waitLimitDispatch.toNat ∧ e.waitLimitDispatch.toNat ≤ 3600 ∧ 1 ≤ e.waitLimitReserve.toNat ∧
    e.waitLimitReserve.toNat ≤ 3600 ∧ e.reserveDebounceA.toNat ≤ 100 ∧ e.reserveDebounceB.toNat ≤ 100 := by
  constructor
  · intro h
    unfold parseStation at h
    split at h
    next uc wc cc ab sc m1 m0 s1 s0 d1 d0 r1 r0 da db f =>
      simp only [within_eq_some_iff, Bool.and_eq_true, decide_eq_true_eq, and_assoc] at h
      obtain ⟨huc, huc', hwc, hwc', hcc, hm, hs, hs', hd, hd', hr, hr', hda, hdb, rfl⟩ := h
      exact ⟨⟨f, by simp [stationBytes, halfBytes]⟩, huc, huc', hwc, hwc', hcc, hm, hs, hs', hd, hd', hr, hr', hda, hdb⟩
    next => cases h
  · rintro ⟨⟨f, rfl⟩, huc, huc', hwc, hwc', hcc, hm, hs, hs', hd, hd', hr, hr', hda, hdb⟩
    simp [stationBytes, halfBytes, parseStation, within, huc, huc', hwc, hwc', hcc, hm, hs, hs', hd, hd', hr, hr', hda, hdb]

theorem silenceOk_iff {h : Half} : silenceOk h = true ↔ 5 ≤ h.toNat ∧ h.toNat ≤ 600 := by simp [silenceOk]

theorem parseUnitEntry_eq_some_iff {e : UnitEntry} : parseUnitEntry data = some e ↔
    (∃ filler : List Byte, filler.length = 13 ∧ data = (unitEntryBytes e).take 3 ++ filler) ∧
    5 ≤ e.unitSilence.toNat ∧ e.unitSilence.toNat ≤ 600 := by
  constructor
  · intro h
    unfold parseUnitEntry at h
    split at h
    next w s1 s0 f1 f2 f3 f4 f5 f6 f7 f8 f9 f10 f11 f12 f13 =>
      simp only [Option.bind_eq_bind, Option.bind_eq_some_iff, finOf_eq_some_iff (n := 2) (by decide), within_eq_some_iff,
        silenceOk_iff] at h
      obtain ⟨w, rfl, hs, rfl⟩ := h
      exact ⟨⟨[f1, f2, f3, f4, f5, f6, f7, f8, f9, f10, f11, f12, f13], rfl, by simp [unitEntryBytes, halfBytes]⟩, hs⟩
    next => cases h
  · rintro ⟨⟨filler, hlen, rfl⟩, hs⟩
    match filler, hlen with
    | [_, _, _, _, _, _, _, _, _, _, _, _, _], _ =>
      simp [unitEntryBytes, halfBytes, parseUnitEntry, within, silenceOk, hs]

theorem parseWaterwayEntry_eq_some_iff {e : WaterwayEntry} : parseWaterwayEntry data = some e ↔
    (∃ filler : List Byte, filler.length = 12 ∧ data = (waterwayEntryBytes e).take 4 ++ filler) ∧
    e.settleTime.toNat ≤ 600 ∧ 5 ≤ e.waterwaySilence.toNat ∧ e.waterwaySilence.toNat ≤ 600 := by
  constructor
  · intro h
    unfold parseWaterwayEntry at h
    split at h
    next t1 t0 s1 s0 f1 f2 f3 f4 f5 f6 f7 f8 f9 f10 f11 f12 =>
      simp only [within_eq_some_iff, Bool.and_eq_true, decide_eq_true_eq, silenceOk_iff] at h
      obtain ⟨hr, rfl⟩ := h
      exact ⟨⟨[f1, f2, f3, f4, f5, f6, f7, f8, f9, f10, f11, f12], rfl, by simp [waterwayEntryBytes, halfBytes]⟩, hr⟩
    next => cases h
  · rintro ⟨⟨filler, hlen, rfl⟩, ht, hs⟩
    match filler, hlen with
    | [_, _, _, _, _, _, _, _, _, _, _, _], _ =>
      simp [waterwayEntryBytes, halfBytes, parseWaterwayEntry, within, silenceOk, ht, hs]

/-! ## Routes and phases (R25) -/

theorem parseRoute_eq_some_iff {e : Route} :
    parseRoute data = some e ↔ data = routeBytes e ∧ 1 ≤ e.phaseCount ∧ e.phaseCount ≤ 8 := by
  constructor
  · intro h
    unfold parseRoute at h
    split at h
    next en f t us fp pc =>
      simp only [Option.bind_eq_bind, Option.bind_eq_some_iff, yesNo_eq_some_iff, modeOf_eq_some_iff,
        finOf_eq_some_iff (n := 128) (by decide), within_eq_some_iff, Bool.and_eq_true, decide_eq_true_eq] at h
      obtain ⟨en, rfl, f, rfl, t, rfl, fp, rfl, hr, rfl⟩ := h
      exact ⟨by simp [routeBytes, natByte_toNat], hr⟩
    next => cases h
  · rintro ⟨rfl, h1, h8⟩
    have hpc : (natByte e.phaseCount).toNat = e.phaseCount := toNat_natByte (by omega)
    simp [routeBytes, parseRoute, modeOf_modeCode, within, hpc, h1, h8]

theorem parsePhase_eq_some_iff {e : Phase} : parsePhase data = some e ↔ data = phaseBytes e ∧ e.retries ≤ 3 := by
  constructor
  · intro h
    unfold parsePhase at h
    split at h
    next c l v3 v2 v1 v0 m3 m2 m1 m0 t1 t0 r cl k sp =>
      simp only [Option.bind_eq_bind, Option.bind_eq_some_iff, yesNo_eq_some_iff, modeOf_eq_some_iff,
        resourcesOf_eq_some_iff, within_eq_some_iff, decide_eq_true_eq] at h
      obtain ⟨l, rfl, cl, rfl, k, rfl, sp, rfl, hr, rfl⟩ := h
      exact ⟨by simp [phaseBytes, wordBytes_word, halfBytes_half, natByte_toNat], hr⟩
    next => cases h
  · rintro ⟨rfl, hr⟩
    have hretries : (natByte e.retries).toNat = e.retries := toNat_natByte (by omega)
    simp [phaseBytes, wordBytes, halfBytes, parsePhase, modeOf_modeCode, within, hretries, hr]

/-! ## Recognition, pools and reserve entries (R4, R49, R108) -/

theorem parseRecognition_eq_some_iff {e : Recognition} : parseRecognition data = some e ↔ data = recognitionBytes e := by
  constructor
  · intro h
    unfold parseRecognition at h
    split at h
    next en m us v3 v2 v1 v0 m3 m2 m1 m0 =>
      simp only [Option.bind_eq_bind, Option.bind_eq_some_iff, yesNo_eq_some_iff,
        finOf_eq_some_iff (n := 16) (by decide), Option.some.injEq] at h
      obtain ⟨en, rfl, m, rfl, rfl⟩ := h
      simp [recognitionBytes, wordBytes_word]
    next => cases h
  · rintro rfl
    simp [recognitionBytes, wordBytes, parseRecognition]

theorem parsePool_eq_some_iff {e : Pool} : parsePool data = some e ↔ data = poolBytes e := by
  constructor
  · intro h
    unfold parsePool at h
    split at h
    next ms c =>
      simp only [Option.bind_eq_bind, Option.bind_eq_some_iff, finOf_eq_some_iff (n := 4) (by decide),
        Option.some.injEq] at h
      obtain ⟨c, rfl, rfl⟩ := h
      rfl
    next => cases h
  · rintro rfl
    simp [poolBytes, parsePool]

/-- A value of w bits keeps its number in a wider field. -/
theorem setWidth_setWidth_of_lt {v w : Nat} {b : BitVec v} (h : b.toNat < 2 ^ w) :
    (b.setWidth w).setWidth v = b := by
  apply BitVec.eq_of_toNat_eq
  rw [BitVec.toNat_setWidth, BitVec.toNat_setWidth, Nat.mod_eq_of_lt h, Nat.mod_eq_of_lt b.isLt]

theorem parseReserve_eq_some_iff {e : ReserveEntry} :
    parseReserve data = some e ↔ data = reserveBytes e ∧ e.setpoint.toNat ≤ 4000 := by
  constructor
  · intro h
    unfold parseReserve at h
    split at h
    next ap t s1 s0 =>
      simp only [Option.bind_eq_bind, Option.bind_eq_some_iff, reserveTargetOf_eq_some_iff, within_eq_some_iff,
        Bool.and_eq_true, decide_eq_true_eq, setpointOk] at h
      obtain ⟨t, rfl, ⟨hap, hs⟩, rfl⟩ := h
      have hwide : (ap.setWidth 5).setWidth 8 = ap := setWidth_setWidth_of_lt (w := 5) hap
      exact ⟨by simp only [reserveBytes, halfBytes_half, hwide, List.cons_append, List.nil_append], hs⟩
    next => cases h
  · rintro ⟨rfl, hs⟩
    have hap : (e.apply.setWidth 8).toNat < 32 := by
      rw [BitVec.toNat_setWidth, Nat.mod_eq_of_lt (by omega)]
      exact e.apply.isLt
    have happly : (e.apply.setWidth 8).setWidth 5 = e.apply := setWidth_setWidth_of_lt (by omega)
    simp only [reserveBytes, halfBytes, List.cons_append, List.nil_append, parseReserve,
      reserveTargetOf_reserveTargetByte, half_hiByte_loByte, happly, Option.bind_eq_bind, Option.bind_some]
    exact within_eq_some_iff.mpr ⟨by rw [decide_eq_true hap, setpointOk, decide_eq_true hs]; rfl, rfl⟩

/-! ## The guard's tables (R139, R141) -/

theorem parseMatch_eq_some_iff {e : MatchEntry} : parseMatch data = some e ↔
    data = matchBytes e ∧ (∀ k, e.kind = some k → 0x10 ≤ k.toNat) ∧ (∀ n, e.len = some n → n.toNat ≤ 64) ∧
      1 ≤ e.cls.val := by
  have hcls : ∀ c : Fin 16, decide (c ≠ 0) = true ↔ 1 ≤ c.val := by
    intro c
    rw [decide_eq_true_eq, Ne, Fin.ext_iff, Nat.one_le_iff_ne_zero]
    rfl
  constructor
  · intro h
    unfold parseMatch at h
    split at h
    next en d k i1 i0 j1 j0 l v0 v1 m0 m1 c =>
      simp only [Option.bind_eq_bind, Option.bind_eq_some_iff, yesNo_eq_some_iff, directionOf_eq_some_iff,
        matchKindOf_eq_some_iff, matchLenOf_eq_some_iff, finOf_eq_some_iff (n := 16) (by decide), within_eq_some_iff,
        hcls] at h
      obtain ⟨en, rfl, d, rfl, k, ⟨rfl, hk⟩, l, ⟨rfl, hl⟩, c, rfl, hc, rfl⟩ := h
      exact ⟨by simp [matchBytes, halfBytes_half], hk, hl, hc⟩
    next => cases h
  · rintro ⟨rfl, hk, hl, hc⟩
    have hkind : matchKindOf (e.kind.getD 0) = some e.kind := matchKindOf_eq_some_iff.mpr ⟨rfl, hk⟩
    have hlen : matchLenOf (e.len.getD 0xFF) = some e.len := matchLenOf_eq_some_iff.mpr ⟨rfl, hl⟩
    simp only [matchBytes, halfBytes, List.cons_append, List.nil_append, parseMatch, yesNo_boolByte,
      directionOf_directionCode, hkind, hlen, finOf_natByte (show 16 ≤ 256 by decide), half_hiByte_loByte,
      Option.bind_eq_bind, Option.bind_some]
    exact within_eq_some_iff.mpr ⟨(hcls _).mpr hc, rfl⟩

theorem parseGuard_eq_some_iff {e : GuardRow} : parseGuard data = some e ↔ data = guardBytes e := by
  constructor
  · intro h
    unfold parseGuard at h
    split at h
    next =>
      simp only [Option.bind_eq_bind, Option.bind_eq_some_iff, actionOf_eq_some_iff, Option.some.injEq] at h
      obtain ⟨a, rfl, b, rfl, c, rfl, d, rfl, e, rfl, f, rfl, g, rfl, rfl⟩ := h
      rfl
    next => cases h
  · rintro rfl
    simp [guardBytes, parseGuard]

/-! ## The schedule (R127) -/

theorem parseRowEntry_eq_some_iff {m s1 s0 : Byte} {e : RowEntry} :
    parseRowEntry m s1 s0 = some e ↔ [m, s1, s0] = rowEntryBytes e ∧ e.setpoint.toNat ≤ 4000 := by
  constructor
  · intro h
    simp only [parseRowEntry, Option.bind_eq_bind, Option.bind_eq_some_iff, entryModeOf_eq_some_iff, within_eq_some_iff,
      setpointOk, decide_eq_true_eq] at h
    obtain ⟨m, rfl, hs, rfl⟩ := h
    exact ⟨by simp [rowEntryBytes, halfBytes_half], hs⟩
  · rintro ⟨hb, hs⟩
    simp only [rowEntryBytes, halfBytes, List.cons_append, List.nil_append, List.cons.injEq, and_true] at hb
    obtain ⟨rfl, rfl, rfl⟩ := hb
    simp [parseRowEntry, within, setpointOk, hs]

theorem parseRowEntry_rowEntryBytes {e : RowEntry} (h : e.setpoint.toNat ≤ 4000) :
    parseRowEntry (entryModeByte e.mode) (hiByte e.setpoint) (loByte e.setpoint) = some e :=
  parseRowEntry_eq_some_iff.mpr ⟨rfl, h⟩

theorem vector_eight {α : Type} (v : Vector α 8) : v = #v[v[0], v[1], v[2], v[3], v[4], v[5], v[6], v[7]] := by
  ext k hk
  interval_cases k <;> rfl

/-- A row byte by byte. -/
theorem rowBytes_eq (r : Row) : rowBytes r =
    [r.duration] ++ rowEntryBytes r.entries[0] ++ rowEntryBytes r.entries[1] ++ rowEntryBytes r.entries[2] ++
      rowEntryBytes r.entries[3] ++ rowEntryBytes r.entries[4] ++ rowEntryBytes r.entries[5] ++
      rowEntryBytes r.entries[6] ++ rowEntryBytes r.entries[7] := rfl

theorem parseRow_eq_some_iff {r : Row} : parseRow data = some r ↔
    data = rowBytes r ∧ 1 ≤ r.duration.toNat ∧ r.duration.toNat ≤ 240 ∧
      ∀ u : UnitNo, r.entries[u.val].setpoint.toNat ≤ 4000 := by
  constructor
  · intro h
    unfold parseRow at h
    split at h
    next =>
      simp only [Option.bind_eq_bind, Option.bind_eq_some_iff, parseRowEntry_eq_some_iff, within_eq_some_iff,
        Bool.and_eq_true, decide_eq_true_eq] at h
      obtain ⟨a, ⟨ha, ha'⟩, b, ⟨hb, hb'⟩, c, ⟨hc, hc'⟩, d, ⟨hd, hd'⟩, e, ⟨he, he'⟩, f, ⟨hf, hf'⟩, g, ⟨hg, hg'⟩, h,
        ⟨hh, hh'⟩, ⟨h1, h240⟩, rfl⟩ := h
      refine ⟨?_, h1, h240, ?_⟩
      · rw [rowBytes_eq]
        simp [← ha, ← hb, ← hc, ← hd, ← he, ← hf, ← hg, ← hh]
      · intro u
        fin_cases u
        exacts [ha', hb', hc', hd', he', hf', hg', hh']
    next => cases h
  · rintro ⟨rfl, h1, h240, hsp⟩
    have hentry : ∀ (k : Nat) (hk : k < 8), parseRowEntry (entryModeByte r.entries[k].mode) (hiByte r.entries[k].setpoint)
        (loByte r.entries[k].setpoint) = some r.entries[k] := fun k hk => parseRowEntry_rowEntryBytes (hsp ⟨k, hk⟩)
    rw [rowBytes_eq]
    simp only [rowEntryBytes, halfBytes, List.cons_append, List.nil_append, parseRow, hentry 0 (by decide),
      hentry 1 (by decide), hentry 2 (by decide), hentry 3 (by decide), hentry 4 (by decide), hentry 5 (by decide),
      hentry 6 (by decide), hentry 7 (by decide), Option.bind_eq_bind, Option.bind_some]
    exact within_eq_some_iff.mpr ⟨by simp [h1, h240], congrArg (Row.mk r.duration) (vector_eight r.entries).symm⟩

/-! ## Counter control and values (R177) -/

theorem vector_four {α : Type} (v : Vector α 4) : v = #v[v[0], v[1], v[2], v[3]] := by
  ext k hk
  interval_cases k <;> rfl

/-- The written fields of counter control byte by byte. -/
theorem controlFields_eq (c : Control) : ((counterNumbers.map fun n => natByte (eventCode c.event[n.val])) ++
    [c.enable.setWidth 8, c.notify.setWidth 8, boolByte c.freezeOnOverflow] : List Byte) =
    [natByte (eventCode c.event[0]), natByte (eventCode c.event[1]), natByte (eventCode c.event[2]),
      natByte (eventCode c.event[3]), c.enable.setWidth 8, c.notify.setWidth 8, boolByte c.freezeOnOverflow] := rfl

theorem parseControl_eq_some_iff {c : Control} : parseControl data = some c ↔
    data = (counterNumbers.map fun n => natByte (eventCode c.event[n.val])) ++
      [c.enable.setWidth 8, c.notify.setWidth 8, boolByte c.freezeOnOverflow] := by
  rw [controlFields_eq]
  constructor
  · intro h
    unfold parseControl at h
    split at h
    next e0 e1 e2 e3 en nt fo =>
      simp only [Option.bind_eq_bind, Option.bind_eq_some_iff, eventOfCode_eq_some_iff, yesNo_eq_some_iff,
        within_eq_some_iff, Bool.and_eq_true, decide_eq_true_eq] at h
      obtain ⟨e0, rfl, e1, rfl, e2, rfl, e3, rfl, fo, rfl, ⟨hen, hnt⟩, rfl⟩ := h
      have hen : (en.setWidth 4).setWidth 8 = en := setWidth_setWidth_of_lt (w := 4) hen
      have hnt : (nt.setWidth 4).setWidth 8 = nt := setWidth_setWidth_of_lt (w := 4) hnt
      simp [hen, hnt]
    next => cases h
  · rintro rfl
    have hlt : ∀ x : BitVec 4, (x.setWidth 8).toNat < 16 := fun x => by
      rw [BitVec.toNat_setWidth, Nat.mod_eq_of_lt (by omega)]
      exact x.isLt
    have hwide : ∀ x : BitVec 4, (x.setWidth 8).setWidth 4 = x := fun x => setWidth_setWidth_of_lt (by omega)
    simp only [parseControl, eventOfCode_natByte, yesNo_boolByte, hwide, Option.bind_eq_bind, Option.bind_some,
      decide_eq_true (hlt _), Bool.and_self]
    exact congrArg (fun v => some (Control.mk v c.enable c.notify c.freezeOnOverflow)) (vector_four c.event).symm

theorem parseValue_eq_some_iff {v : Word} : parseValue data = some v ↔ data = wordBytes v := by
  constructor
  · intro h
    unfold parseValue at h
    split at h
    next =>
      cases h
      exact (wordBytes_word ..).symm
    next => cases h
  · rintro rfl
    exact parseValue_wordBytes v

end Sys2Proof.Machine
end


section
/-!
PROOFS. Chapter 10: the length and the ranges of the bytes that a write accepts, table by table (R164, R165).
-/

namespace Sys2Proof.Machine

/-- A form of DATA of one length is given by what it asks of the bytes of that length. -/
theorem exists_parse_iff {α : Type} {parse : List Byte → Option α} {n : Nat} {data : List Byte} {ranges : Prop}
    (hlen : ∀ e, parse data = some e → data.length = n)
    (h : data.length = n → ((∃ e, parse data = some e) ↔ ranges)) :
    (∃ e, parse data = some e) ↔ data.length = n ∧ ranges :=
  ⟨fun ⟨e, he⟩ => ⟨hlen e he, (h (hlen e he)).mp ⟨e, he⟩⟩, fun ⟨hn, hr⟩ => (h hn).mpr hr⟩

/-- The number that byte k of DATA spells. -/
abbrev byteAt (data : List Byte) (k : Nat) : Nat := (data.getD k 0).toNat

/-- The number that bytes k and k + 1 of DATA spell. -/
abbrev pairAt (data : List Byte) (k : Nat) : Nat := byteAt data k * 256 + byteAt data (k + 1)

variable {data : List Byte}

theorem exists_parseStation_iff : (∃ e, parseStation data = some e) ↔
    data.length = 16 ∧ 1 ≤ byteAt data 0 ∧ byteAt data 0 ≤ 8 ∧ 1 ≤ byteAt data 1 ∧ byteAt data 1 ≤ 2 ∧
      byteAt data 2 ≤ 2 ∧ pairAt data 5 ≤ 6000 ∧ 1 ≤ pairAt data 7 ∧ pairAt data 7 ≤ 3600 ∧ 1 ≤ pairAt data 9 ∧
      pairAt data 9 ≤ 3600 ∧ 1 ≤ pairAt data 11 ∧ pairAt data 11 ≤ 3600 ∧ byteAt data 13 ≤ 100 ∧
      byteAt data 14 ≤ 100 := by
  refine exists_parse_iff (fun e h => ?_) fun hlen => ?_
  · obtain ⟨⟨f, rfl⟩, _⟩ := parseStation_eq_some_iff.mp h
    rfl
  · match data, hlen with
    | [_, _, _, _, _, _, _, _, _, _, _, _, _, _, _, _], _ =>
      simp [parseStation, exists_within_iff, half_toNat, byteAt, pairAt, and_assoc]

theorem exists_parseUnitEntry_iff : (∃ e, parseUnitEntry data = some e) ↔
    data.length = 16 ∧ byteAt data 0 ≤ 1 ∧ 5 ≤ pairAt data 1 ∧ pairAt data 1 ≤ 600 := by
  refine exists_parse_iff (fun e h => ?_) fun hlen => ?_
  · obtain ⟨⟨filler, hfiller, rfl⟩, _⟩ := parseUnitEntry_eq_some_iff.mp h
    simp [unitEntryBytes, halfBytes, hfiller]
  · match data, hlen with
    | [_, _, _, _, _, _, _, _, _, _, _, _, _, _, _, _], _ =>
      simp only [parseUnitEntry, Option.bind_eq_bind, exists_bind_iff, exists_within_iff, silenceOk_iff, half_toNat,
        exists_and_right, exists_finOf_iff]
      exact and_congr_left' Nat.lt_succ_iff

theorem exists_parseWaterwayEntry_iff : (∃ e, parseWaterwayEntry data = some e) ↔
    data.length = 16 ∧ pairAt data 0 ≤ 600 ∧ 5 ≤ pairAt data 2 ∧ pairAt data 2 ≤ 600 := by
  refine exists_parse_iff (fun e h => ?_) fun hlen => ?_
  · obtain ⟨⟨filler, hfiller, rfl⟩, _⟩ := parseWaterwayEntry_eq_some_iff.mp h
    simp [waterwayEntryBytes, halfBytes, hfiller]
  · match data, hlen with
    | [_, _, _, _, _, _, _, _, _, _, _, _, _, _, _, _], _ =>
      simp [parseWaterwayEntry, exists_within_iff, silenceOk_iff, half_toNat, byteAt, pairAt]

theorem exists_parseRoute_iff : (∃ e, parseRoute data = some e) ↔
    data.length = 6 ∧ byteAt data 0 ≤ 1 ∧ byteAt data 1 ≤ 4 ∧ byteAt data 2 ≤ 4 ∧ byteAt data 4 ≤ 127 ∧
      1 ≤ byteAt data 5 ∧ byteAt data 5 ≤ 8 := by
  refine exists_parse_iff (fun e h => congrArg List.length (parseRoute_eq_some_iff.mp h).1) fun hlen => ?_
  match data, hlen with
  | [_, _, _, _, _, _], _ =>
    simp [-Bool.exists_bool, parseRoute, exists_bind_iff, exists_within_iff, exists_yesNo_iff, exists_modeOf_iff, exists_finOf_iff, byteAt,
      Nat.lt_succ_iff]

theorem exists_parsePhase_iff : (∃ e, parsePhase data = some e) ↔
    data.length = 16 ∧ byteAt data 1 ≤ 4 ∧ byteAt data 12 ≤ 3 ∧ byteAt data 13 ≤ 3 ∧ byteAt data 14 ≤ 3 ∧
      byteAt data 15 ≤ 1 := by
  refine exists_parse_iff (fun e h => congrArg List.length (parsePhase_eq_some_iff.mp h).1) fun hlen => ?_
  match data, hlen with
  | [_, _, _, _, _, _, _, _, _, _, _, _, _, _, _, _], _ =>
    simp [-Bool.exists_bool, parsePhase, exists_bind_iff, exists_within_iff, exists_yesNo_iff, exists_modeOf_iff,
      exists_resourcesOf_iff, byteAt]
    tauto

theorem exists_parseRecognition_iff : (∃ e, parseRecognition data = some e) ↔
    data.length = 11 ∧ byteAt data 0 ≤ 1 ∧ byteAt data 1 ≤ 15 := by
  refine exists_parse_iff (fun e h => congrArg List.length (parseRecognition_eq_some_iff.mp h)) fun hlen => ?_
  match data, hlen with
  | [_, _, _, _, _, _, _, _, _, _, _], _ =>
    simp [-Bool.exists_bool, parseRecognition, exists_bind_iff, exists_yesNo_iff, exists_finOf_iff, byteAt,
      Nat.lt_succ_iff]

theorem exists_parsePool_iff : (∃ e, parsePool data = some e) ↔ data.length = 2 ∧ byteAt data 1 ≤ 3 := by
  refine exists_parse_iff (fun e h => congrArg List.length (parsePool_eq_some_iff.mp h)) fun hlen => ?_
  match data, hlen with
  | [_, _], _ => simp [parsePool, exists_bind_iff, exists_finOf_iff, byteAt, Nat.lt_succ_iff]

theorem exists_parseReserve_iff : (∃ e, parseReserve data = some e) ↔
    data.length = 4 ∧ byteAt data 0 ≤ 31 ∧ (byteAt data 1 ≤ 4 ∨ byteAt data 1 = 255) ∧ pairAt data 2 ≤ 4000 := by
  refine exists_parse_iff (fun e h => congrArg List.length (parseReserve_eq_some_iff.mp h).1) fun hlen => ?_
  match data, hlen with
  | [_, _, _, _], _ =>
    simp [parseReserve, exists_bind_iff, exists_within_iff, exists_reserveTargetOf_iff, setpointOk, half_toNat, byteAt,
      pairAt, Nat.lt_succ_iff]
    tauto

theorem exists_parseMatch_iff : (∃ e, parseMatch data = some e) ↔
    data.length = 13 ∧ byteAt data 0 ≤ 1 ∧ byteAt data 1 ≤ 2 ∧ (byteAt data 2 = 0 ∨ 16 ≤ byteAt data 2) ∧
      (byteAt data 7 ≤ 64 ∨ byteAt data 7 = 255) ∧ 1 ≤ byteAt data 12 ∧ byteAt data 12 ≤ 15 := by
  refine exists_parse_iff (fun e h => congrArg List.length (parseMatch_eq_some_iff.mp h).1) fun hlen => ?_
  match data, hlen with
  | [_, _, _, _, _, _, _, _, _, _, _, _, c], _ =>
    have hcls : (∃ i : Fin 16, finOf 16 c = some i ∧ i ≠ 0) ↔ 1 ≤ c.toNat ∧ c.toNat ≤ 15 := by
      constructor
      · rintro ⟨i, hi, h0⟩
        have hc := (finOf_eq_some_iff (by decide)).mp hi
        rw [hc, toNat_natByte (by omega)]
        exact ⟨Nat.one_le_iff_ne_zero.mpr fun h => h0 (Fin.ext h), Nat.le_of_lt_succ i.isLt⟩
      · rintro ⟨h1, h15⟩
        exact ⟨⟨c.toNat, by omega⟩, dif_pos (by omega), fun h => by simp [Fin.ext_iff] at h; omega⟩
    simp [-Bool.exists_bool, parseMatch, exists_bind_iff, exists_within_iff, exists_yesNo_iff, exists_directionOf_iff,
      exists_matchKindOf_iff, exists_matchLenOf_iff, hcls, byteAt]

theorem exists_parseGuard_iff : (∃ e, parseGuard data = some e) ↔ data.length = 7 ∧ ∀ k, byteAt data k ≤ 2 := by
  refine exists_parse_iff (fun e h => congrArg List.length (parseGuard_eq_some_iff.mp h)) fun hlen => ?_
  match data, hlen with
  | [a, b, c, d, e, f, g], _ =>
    have hall : (∀ k, byteAt [a, b, c, d, e, f, g] k ≤ 2) ↔ a.toNat ≤ 2 ∧ b.toNat ≤ 2 ∧ c.toNat ≤ 2 ∧ d.toNat ≤ 2 ∧
        e.toNat ≤ 2 ∧ f.toNat ≤ 2 ∧ g.toNat ≤ 2 := by
      refine ⟨fun h => ⟨h 0, h 1, h 2, h 3, h 4, h 5, h 6⟩, fun ⟨ha, hb, hc, hd, he, hf, hg⟩ k => ?_⟩
      match k with
      | 0 => exact ha
      | 1 => exact hb
      | 2 => exact hc
      | 3 => exact hd
      | 4 => exact he
      | 5 => exact hf
      | 6 => exact hg
      | k + 7 => simp [byteAt]
    rw [hall]
    simp [parseGuard, exists_bind_iff, exists_actionOf_iff]

theorem exists_parseRowEntry_iff {m s1 s0 : Byte} : (∃ e, parseRowEntry m s1 s0 = some e) ↔
    (m.toNat ≤ 4 ∨ m.toNat = 15) ∧ s1.toNat * 256 + s0.toNat ≤ 4000 := by
  simp [parseRowEntry, exists_bind_iff, exists_within_iff, exists_entryModeOf_iff, setpointOk, half_toNat]

theorem exists_parseRow_iff : (∃ e, parseRow data = some e) ↔
    data.length = 25 ∧ 1 ≤ byteAt data 0 ∧ byteAt data 0 ≤ 240 ∧
      ∀ u : UnitNo, (byteAt data (1 + 3 * u.val) ≤ 4 ∨ byteAt data (1 + 3 * u.val) = 15) ∧
        pairAt data (2 + 3 * u.val) ≤ 4000 := by
  refine exists_parse_iff (fun e h => congrArg List.length (parseRow_eq_some_iff.mp h).1) fun hlen => ?_
  match data, hlen with
  | [_, _, _, _, _, _, _, _, _, _, _, _, _, _, _, _, _, _, _, _, _, _, _, _, _], _ =>
    simp only [parseRow, Option.bind_eq_bind, exists_bind_iff, exists_within_iff, exists_and_right,
      exists_parseRowEntry_iff, Bool.and_eq_true, decide_eq_true_eq]
    refine ⟨fun h => ?_, fun h => ?_⟩
    · obtain ⟨ha, hb, hc, hd, he, hf, hg, hh, h1, h240⟩ := h
      refine ⟨h1, h240, fun u => ?_⟩
      fin_cases u
      exacts [ha, hb, hc, hd, he, hf, hg, hh]
    · obtain ⟨h1, h240, h⟩ := h
      exact ⟨h 0, h 1, h 2, h 3, h 4, h 5, h 6, h 7, h1, h240⟩

theorem exists_parseControl_iff : (∃ c, parseControl data = some c) ↔
    data.length = 7 ∧ (∀ k, k < 6 → byteAt data k ≤ 15) ∧ byteAt data 6 ≤ 1 := by
  refine exists_parse_iff (fun e h => congrArg List.length (parseControl_eq_some_iff.mp h)) fun hlen => ?_
  match data, hlen with
  | [e0, e1, e2, e3, en, nt, fo], _ =>
    simp only [parseControl, Option.bind_eq_bind, exists_bind_iff, exists_within_iff, exists_and_right,
      exists_eventOfCode_iff, exists_yesNo_iff, Bool.and_eq_true, decide_eq_true_eq, Nat.lt_succ_iff]
    refine ⟨fun ⟨h0, h1, h2, h3, hf, hen, hnt⟩ => ⟨fun k hk => ?_, hf⟩, fun ⟨h, hf⟩ => ?_⟩
    · interval_cases k
      exacts [h0, h1, h2, h3, hen, hnt]
    · exact ⟨h 0 (by decide), h 1 (by decide), h 2 (by decide), h 3 (by decide), hf, h 4 (by decide), h 5 (by decide)⟩

theorem exists_parseValue_iff : (∃ v, parseValue data = some v) ↔ data.length = 4 := by
  refine ⟨fun ⟨v, h⟩ => congrArg List.length (parseValue_eq_some_iff.mp h), fun hlen => ?_⟩
  match data, hlen with
  | [_, _, _, _], _ => exact ⟨_, rfl⟩

/-- Settles O47: each field is spelled by one byte or one pair, so a written entry and its bytes determine each
other. -/
theorem writtenEntriesReadBack : Obligations.WrittenEntriesReadBack := by
  refine ⟨fun _ _ => parseStation_eq_some_iff, fun _ _ => parseUnitEntry_eq_some_iff,
    fun _ _ => parseWaterwayEntry_eq_some_iff, fun _ => rfl, fun _ => rfl, fun _ => rfl,
    fun _ _ => parseRoute_eq_some_iff, fun _ _ => parsePhase_eq_some_iff, fun _ _ => parseRecognition_eq_some_iff,
    fun _ _ => parsePool_eq_some_iff, fun _ _ => parseReserve_eq_some_iff, fun _ _ => parseMatch_eq_some_iff,
    fun _ _ => parseGuard_eq_some_iff, fun _ _ => parseRow_eq_some_iff, fun _ _ => parseControl_eq_some_iff,
    fun _ _ => parseValue_eq_some_iff, fun data => ?_⟩
  exact ⟨exists_parseStation_iff, exists_parseUnitEntry_iff, exists_parseWaterwayEntry_iff, exists_parseRoute_iff,
    exists_parsePhase_iff, exists_parseRecognition_iff, exists_parsePool_iff, exists_parseReserve_iff,
    exists_parseMatch_iff, exists_parseGuard_iff, exists_parseRow_iff, exists_parseControl_iff, exists_parseValue_iff⟩

end Sys2Proof.Machine
end


section
/-!
PROOFS. Chapter 10: READ_TABLE (R160, R162, R163).
-/

namespace Sys2Proof.Machine

/-! ## The tables by their numbers (R162) -/

theorem tableOf_eq_none {b : Byte} (h : b.toNat ∉ [1, 2, 3, 4, 5, 6, 8, 9, 10, 11, 12, 16, 17, 18, 19, 20]) :
    tableOf b = none := by
  unfold tableOf
  split
  case h_17 => rfl
  all_goals next hb =>
    rw [hb] at h
    exact absurd (by decide) h

/-- Only the counter control table has other limits for the request that starts at its last index (R163). -/
theorem counterControl_limits (i : Half) :
    Table.counterControl.lastRead i.toNat = (if i = 8 then 8 else 7) ∧
      Table.counterControl.entrySize i.toNat = if i = 8 then 1 else 10 := by
  have hiff : i.toNat = 8 ↔ i = 8 := ⟨fun h => BitVec.eq_of_toNat_eq h, fun h => congrArg BitVec.toNat h⟩
  exact ⟨if_congr hiff rfl rfl, if_congr hiff rfl rfl⟩

theorem tableOf_limits {b : Byte} {i : Half} {table last size : Nat}
    (hmem : (table, last, size) ∈
      [(1, 10, 16), (2, 31, 6), (3, 127, 16), (4, 11, 11), (5, 3, 2), (6, 15, 4), (8, 23, 13), (9, 15, 7),
        (10, 256, 25), (11, if i = 8 then 8 else 7, if i = 8 then 1 else 10), (12, 31, 4), (16, 7, 32),
        (17, 15, 12), (18, 7, 20), (19, 3, 44), (20, 1, 36)])
    (hb : b.toNat = table) :
    ∃ t, tableOf b = some t ∧ t.lastRead i.toNat = last ∧ t.entrySize i.toNat = size := by
  obtain rfl : b = natByte table := hb ▸ (natByte_toNat b).symm
  simp only [List.mem_cons, Prod.mk.injEq, List.not_mem_nil, or_false] at hmem
  rcases hmem with h | h | h | h | h | h | h | h | h | h | h | h | h | h | h | h
  case inr.inr.inr.inr.inr.inr.inr.inr.inr.inl =>
    obtain ⟨rfl, rfl, rfl⟩ := h
    exact ⟨.counterControl, rfl, counterControl_limits i⟩
  all_goals
    obtain ⟨rfl, rfl, rfl⟩ := h
    exact ⟨_, rfl, rfl, rfl⟩

namespace State

variable {s : State} {r : Request} {t : Table}

/-! ## The checks of READ_TABLE (R160, R163) -/

theorem readTable_noSuchTable (ht : tableOf r.table = none) : s.readTable r = (s, .bad .noSuchTable) := by
  rw [readTable, ht]

theorem readTable_badIndex (ht : tableOf r.table = some t) (hi : t.lastRead r.index.toNat < r.index.toNat) :
    s.readTable r = (s, .bad .badIndex) := by
  rw [readTable, ht]
  exact if_pos hi

theorem readTable_badValue (ht : tableOf r.table = some t) (hi : r.index.toNat ≤ t.lastRead r.index.toNat)
    (hd : ∀ c, r.data = [c] → c = 0) : s.readTable r = (s, .bad .badValue) := by
  rw [readTable, ht]
  dsimp only
  rw [if_neg (Nat.not_lt.mpr hi)]
  split
  next c hc => exact if_pos (hd c hc)
  next => rfl

theorem readTable_ok {c : Byte} (ht : tableOf r.table = some t) (hi : r.index.toNat ≤ t.lastRead r.index.toNat)
    (hd : r.data = [c]) (hc : c ≠ 0) :
    s.readTable r = (s.countRead, .ok (s.readEntries t r.index.toNat c.toNat)) := by
  rw [readTable, ht]
  dsimp only
  rw [if_neg (Nat.not_lt.mpr hi), hd]
  exact if_neg hc

@[simp] theorem heard_plant_freeCount (src : Byte) : (s.heard .plant src).freeCount = s.freeCount := by
  obtain ⟨counters, deadline, h⟩ := heard_plant_eq (s := s) src
  rw [h]

end State

theorem exec_readTable {h : RequestHead} {data : List Byte} {s : State} (hs : s.TakesRequests)
    (hd : data.length ≤ 60) :
    exec (.readTable h data) s = .next (State.answer h.tag 3 h.index
      ((s.heard .plant h.src).readTable { table := h.table, index := h.index, data := data })) :=
  congrArg Host.Outcome.next (takeRequest_answered hs hd (by decide))

/-- Settles O43: the number of the table gives its limits, and the checks follow in their order. -/
theorem readTableCarriesEntries : Obligations.ReadTableCarriesEntries := by
  intro h data s hs hlen s0
  rw [exec_readTable hs hlen]
  refine ⟨fun hn => ?_, fun table last size hmem htable => ?_⟩
  · rw [State.readTable_noSuchTable (tableOf_eq_none hn)]
    rfl
  · obtain ⟨t, ht, hlast, hsize⟩ := tableOf_limits (i := h.index) hmem htable
    refine ⟨fun hi => ?_, fun hi => ⟨fun hd => ?_, fun c t' hd hc ht' => ?_⟩⟩
    · rw [State.readTable_badIndex ht (hlast ▸ hi)]
      rfl
    · rw [State.readTable_badValue ht (hlast ▸ hi) hd]
      rfl
    · obtain rfl : t = t' := Option.some.inj (ht.symm.trans ht')
      have hcount : s0.countRead = { s0 with freeCount := s.freeCount + 1 } := by
        rw [State.countRead, State.heard_plant_freeCount]
      rw [State.readTable_ok ht (hlast ▸ hi) hd hc, hcount, State.readEntries, State.readLength, hlast, hsize]
      rfl

end Sys2Proof.Machine
end


section
/-!
PROOFS. Chapter 10: WRITE_TABLE, but for the station entry (R119, R160, R162, R164, R177).
-/

namespace Sys2Proof.Machine

/-! ## The tables that can be written, by their numbers (R162, R119) -/

theorem writeCount_of_not_mem {b : Byte} {t : Table} (h : b.toNat ∉ [1, 2, 3, 4, 5, 6, 8, 9, 10, 11, 12])
    (ht : tableOf b = some t) : t.writeCount = 0 := by
  unfold tableOf at ht
  split at ht <;> cases ht
  case h_12 | h_13 | h_14 | h_15 | h_16 => rfl
  all_goals next hb =>
    rw [hb] at h
    exact absurd (by decide) h

theorem tableOf_writable {b : Byte} {table entries : Nat}
    (hmem : (table, entries) ∈
      [(1, 11), (2, 32), (3, 128), (4, 12), (5, 4), (6, 16), (8, 24), (9, 16), (10, 256), (11, 8), (12, 32)])
    (hb : b.toNat = table) :
    ∃ t, tableOf b = some t ∧ t.writeCount = entries ∧ entries ≠ 0 ∧ t.isPlan = decide (table ≤ 6) := by
  obtain rfl : b = natByte table := hb ▸ (natByte_toNat b).symm
  simp only [List.mem_cons, Prod.mk.injEq, List.not_mem_nil, or_false] at hmem
  rcases hmem with h | h | h | h | h | h | h | h | h | h | h
  all_goals
    obtain ⟨rfl, rfl⟩ := h
    exact ⟨_, rfl, rfl, by decide, rfl⟩

theorem tableOf_plan {b : Byte} (h1 : 1 ≤ b.toNat) (h6 : b.toNat ≤ 6) :
    ∃ t, tableOf b = some t ∧ t.writeCount ≠ 0 ∧ t.isPlan = true := by
  obtain ⟨k, hk, rfl⟩ : ∃ k, k = b.toNat ∧ b = natByte k := ⟨_, rfl, (natByte_toNat b).symm⟩
  rw [← hk] at h1 h6
  interval_cases k
  all_goals exact ⟨_, rfl, by decide, rfl⟩

/-- An entry just replaced is the one that is read. -/
theorem read_replaced {α : Type} {n i : Nat} (v : Vector α n) (e : α) (f : α → List Byte) (hi : i < n) :
    ((v.setIfInBounds i e)[i]?.map f).getD [] = f e := by
  rw [Vector.getElem?_setIfInBounds_self_of_lt hi]
  rfl

namespace State

variable {s s' : State} {r : Request} {t : Table}

/-! ## The checks of WRITE_TABLE in their order (R160) -/

theorem writeTable_noSuchTable (h : ∀ t, tableOf r.table = some t → t.writeCount = 0) :
    s.writeTable r = (s, .bad .noSuchTable) := by
  unfold writeTable
  split
  · rfl
  · next t ht => exact if_pos (h t ht)

theorem writeTable_planLocked (ht : tableOf r.table = some t) (hw : t.writeCount ≠ 0) (hp : t.isPlan = true)
    (hd : s.dispatcher ≠ .unplanned) : s.writeTable r = (s, .bad .planLocked) := by
  rw [writeTable, ht]
  exact (if_neg hw).trans (if_pos (by simp [hp, hd]))

/-- The checks before the owner's pass: the table is writable and not locked. -/
theorem writeTable_unlocked (ht : tableOf r.table = some t) (hw : t.writeCount ≠ 0)
    (hp : t.isPlan = true → s.dispatcher = .unplanned) :
    s.writeTable r = if t.writeCount ≤ r.index.toNat then (s, .bad .badIndex)
      else match s.storeEntry t r.index.toNat r.data with
        | none => (s, .bad .badValue)
        | some s' => (s', .ok (s'.entryBytes t r.index.toNat)) := by
  rw [writeTable, ht]
  have hlocked : ¬ (t.isPlan && s.dispatcher ≠ .unplanned) = true := by
    simpa using hp
  exact (if_neg hw).trans (if_neg hlocked)

theorem writeTable_badIndex (ht : tableOf r.table = some t) (hw : t.writeCount ≠ 0)
    (hp : t.isPlan = true → s.dispatcher = .unplanned) (hi : t.writeCount ≤ r.index.toNat) :
    s.writeTable r = (s, .bad .badIndex) := (writeTable_unlocked ht hw hp).trans (if_pos hi)

theorem writeTable_badValue (ht : tableOf r.table = some t) (hp : t.isPlan = true → s.dispatcher = .unplanned)
    (hi : r.index.toNat < t.writeCount) (hstore : s.storeEntry t r.index.toNat r.data = none) :
    s.writeTable r = (s, .bad .badValue) := by
  rw [writeTable_unlocked ht (by omega) hp, if_neg (Nat.not_le.mpr hi), hstore]

theorem writeTable_ok (ht : tableOf r.table = some t) (hp : t.isPlan = true → s.dispatcher = .unplanned)
    (hi : r.index.toNat < t.writeCount) (hstore : s.storeEntry t r.index.toNat r.data = some s') :
    s.writeTable r = (s', .ok (s'.entryBytes t r.index.toNat)) := by
  rw [writeTable_unlocked ht (by omega) hp, if_neg (Nat.not_le.mpr hi), hstore]

/-! ## The owner of the plant table and of the counters (R118, R177) -/

theorem storeEntry_unitEntry {i : Nat} {data : List Byte} (h1 : 1 ≤ i) (h8 : i ≤ 8) :
    s.storeEntry .plant i data = (parseUnitEntry data).map fun e =>
      { s with plan := { s.plan with unitEntries := s.plan.unitEntries.setIfInBounds (i - 1) e } } :=
  (if_neg (by omega)).trans (if_pos h8)

theorem storeEntry_waterwayEntry {i : Nat} {data : List Byte} (h9 : 9 ≤ i) :
    s.storeEntry .plant i data = (parseWaterwayEntry data).map fun e =>
      { s with plan := { s.plan with waterwayEntries := s.plan.waterwayEntries.setIfInBounds (i - 9) e } } :=
  (if_neg (by omega)).trans (if_neg (by omega))

theorem entryBytes_unitEntry {i : Nat} (h1 : 1 ≤ i) (h8 : i ≤ 8) :
    s.entryBytes .plant i = (s.plan.unitEntries[i - 1]?.map unitEntryBytes).getD [] :=
  (if_neg (by omega)).trans (if_pos h8)

theorem entryBytes_waterwayEntry {i : Nat} (h9 : 9 ≤ i) :
    s.entryBytes .plant i = (s.plan.waterwayEntries[i - 9]?.map waterwayEntryBytes).getD [] :=
  (if_neg (by omega)).trans (if_neg (by omega))

theorem storeEntry_control {u : UnitNo} {data : List Byte} :
    s.storeEntry .counterControl u.val data = (parseControl data).map fun c => s.writeControl u c := dif_pos u.isLt

theorem entryBytes_control (u : UnitNo) : s.entryBytes .counterControl u.val = controlBytes (s.dutyOf u) := by
  have hget : s.duty[u.val]? = some (s.dutyOf u) := Vector.getElem?_eq_getElem u.isLt
  refine (if_neg (by omega)).trans ?_
  rw [hget]
  rfl

theorem storeEntry_counter {u : UnitNo} {n : CounterNo} {i : Nat} {data : List Byte} (hi : i = u.val * 4 + n.val) :
    s.storeEntry .counterValues i data = (parseValue data).map fun v => s.writeCounter u n v := by
  have h32 : i < 32 := by omega
  refine (dif_pos h32).trans ?_
  rw [counterAt_eq (k := ⟨i, h32⟩) hi]

theorem entryBytes_counter {u : UnitNo} {n : CounterNo} {i : Nat} (hi : i = u.val * 4 + n.val) :
    s.entryBytes .counterValues i = wordBytes (s.dutyOf u).value[n.val] := by
  have hu : i / 4 = u.val := by omega
  have hn : i % 4 = n.val := by omega
  have hget : s.duty[u.val]? = some (s.dutyOf u) := Vector.getElem?_eq_getElem u.isLt
  have hval : (s.dutyOf u).value[n.val]? = some (s.dutyOf u).value[n.val] := Vector.getElem?_eq_getElem n.isLt
  show s.counterBytesAt i = _
  unfold counterBytesAt
  rw [hu, hn, hget]
  dsimp only
  rw [hval]
  rfl

/-- A changed EVENT starts its accumulator over; an unchanged one keeps it (R177). -/
theorem accumulator_controlled (d : Duty) (c : Control) (n : CounterNo) :
    (controlled d c).accumulator[n.val] = if d.event[n.val] = c.event[n.val] then d.accumulator[n.val] else 0 := by
  fin_cases n <;> rfl

end State

/-! ## The commands -/

section

variable {h : RequestHead} {data : List Byte} {s : State} {t : Table}

theorem exec_writeTable (hs : s.TakesRequests) (hd : data.length ≤ 60) :
    exec (.writeTable h data) s = .next (State.answer h.tag 4 h.index
      ((s.heard .plant h.src).writeTable { table := h.table, index := h.index, data := data })) :=
  congrArg Host.Outcome.next (takeRequest_answered hs hd (by decide))

/-- A write that passes the checks before the owner's: DATA that spells no entry is BAD_VALUE, and the entry that it
spells is stored and read back. -/
theorem exec_writeTable_owner {α : Type} {parse : List Byte → Option α} {put : α → State} (hs : s.TakesRequests)
    (hd : data.length ≤ 60) (ht : tableOf h.table = some t) (hp : t.isPlan = true → s.dispatcher = .unplanned)
    (hi : h.index.toNat < t.writeCount)
    (hstore : (s.heard .plant h.src).storeEntry t h.index.toNat data = (parse data).map put) :
    (parse data = none →
      exec (.writeTable h data) s = .next ((s.heard .plant h.src).replied h 4 .badValue [])) ∧
    ∀ e, parse data = some e →
      exec (.writeTable h data) s = .next ((put e).replied h 4 .ok ((put e).entryBytes t h.index.toNat)) := by
  have hp0 : t.isPlan = true → (s.heard .plant h.src).dispatcher = .unplanned := fun hplan =>
    (State.heard_dispatcher _ _).trans (hp hplan)
  rw [exec_writeTable hs hd]
  refine ⟨fun hn => ?_, fun e he => ?_⟩
  · rw [State.writeTable_badValue ht hp0 hi (hstore.trans (by rw [hn]; rfl))]
    rfl
  · rw [State.writeTable_ok ht hp0 hi (hstore.trans (by rw [he]; rfl))]
    rfl

/-- Such a write answers with the bytes as now stored. -/
theorem exec_writeTable_stored {α : Type} {parse : List Byte → Option α} {put : α → State} {bytes : α → List Byte}
    (hs : s.TakesRequests) (hd : data.length ≤ 60) (ht : tableOf h.table = some t)
    (hp : t.isPlan = true → s.dispatcher = .unplanned) (hi : h.index.toNat < t.writeCount)
    (hstore : (s.heard .plant h.src).storeEntry t h.index.toNat data = (parse data).map put)
    (hbytes : ∀ e, parse data = some e → (put e).entryBytes t h.index.toNat = bytes e) :
    (parse data = none →
      exec (.writeTable h data) s = .next ((s.heard .plant h.src).replied h 4 .badValue [])) ∧
    ∀ e, parse data = some e → exec (.writeTable h data) s = .next ((put e).replied h 4 .ok (bytes e)) := by
  obtain ⟨hnone, hsome⟩ := exec_writeTable_owner hs hd ht hp hi hstore
  exact ⟨hnone, fun e he => hbytes e he ▸ hsome e he⟩

end

/-- Settles O45: one lemma for every owner (`exec_writeTable_stored`), with what each table's bytes spell. -/
theorem writeTableReplacesOneEntry : Obligations.WriteTableReplacesOneEntry := by
  refine ⟨fun h data s hs hlen => ?checks, fun h data s hs hlen => ?owners, fun h data s hs hlen htable hi hbad => ?range,
    fun h e0 e1 e2 e3 enable notify fo u s hs htable hi => ?control⟩
  case checks =>
    intro answered
    have hexec : ∀ {a : State × Reply},
        (s.heard .plant h.src).writeTable { table := h.table, index := h.index, data := data } = a →
          exec (.writeTable h data) s = .next (State.answer h.tag 4 h.index a) := fun ha => ha ▸ exec_writeTable hs hlen
    have hdisp : (s.heard .plant h.src).dispatcher = s.dispatcher := State.heard_dispatcher _ _
    refine ⟨fun hn => hexec (State.writeTable_noSuchTable fun t ht => writeCount_of_not_mem hn ht),
      fun h1 h6 hd => ?_, fun table entries hmem htable hplan hi => ?_⟩
    · obtain ⟨t, ht, hw, hp⟩ := tableOf_plan h1 h6
      exact hexec (State.writeTable_planLocked ht hw hp (hdisp ▸ hd))
    · obtain ⟨t, ht, rfl, hw, hp⟩ := tableOf_writable hmem htable
      refine hexec (State.writeTable_badIndex ht hw (fun hlocked => ?_) hi)
      rcases hplan with h6 | hd
      · rw [hp, decide_eq_true_eq] at hlocked
        omega
      · exact hdisp.trans hd
  case owners =>
    intro s0 i bad storedAs stored
    have hplan : s0.plan = s.plan := State.heard_plan _ _
    have table : ∀ {b : Byte} {t : Table}, h.table = b → tableOf b = some t → tableOf h.table = some t :=
      fun hb ht => hb ▸ ht
    refine ⟨fun hd => ⟨fun hb h1 h8 => ?unitEntry, fun hb h9 h10 => ?waterwayEntry, fun hb hi => ?route,
      fun hb hi => ?phase, fun hb hi => ?recognition, fun hb hi => ?pool, fun hb hi => ?reserve⟩,
      fun hb hi => ?matching, fun hb hi => ?guard, fun hb hi => ?schedule, fun hb u n hi => ?counter⟩
    case unitEntry =>
      exact exec_writeTable_stored hs hlen (table hb rfl) (fun _ => hd) (show i < 11 by omega)
        ((State.storeEntry_unitEntry h1 h8).trans (hplan ▸ rfl)) fun e _ =>
          (State.entryBytes_unitEntry h1 h8).trans (read_replaced _ e unitEntryBytes (by omega))
    case waterwayEntry =>
      exact exec_writeTable_stored hs hlen (table hb rfl) (fun _ => hd) (show i < 11 by omega)
        ((State.storeEntry_waterwayEntry h9).trans (hplan ▸ rfl)) fun e _ =>
          (State.entryBytes_waterwayEntry h9).trans (read_replaced _ e waterwayEntryBytes (by omega))
    case route =>
      exact exec_writeTable_stored hs hlen (table hb rfl) (fun _ => hd) (show i < 32 by omega) (hplan ▸ rfl)
        fun e he => (read_replaced _ e routeBytes (by omega)).trans (parseRoute_eq_some_iff.mp he).1.symm
    case phase =>
      exact exec_writeTable_stored hs hlen (table hb rfl) (fun _ => hd) (show i < 128 by omega) (hplan ▸ rfl)
        fun e he => (read_replaced _ e phaseBytes (by omega)).trans (parsePhase_eq_some_iff.mp he).1.symm
    case recognition =>
      exact exec_writeTable_stored hs hlen (table hb rfl) (fun _ => hd) (show i < 12 by omega) (hplan ▸ rfl)
        fun e he => (read_replaced _ e recognitionBytes (by omega)).trans (parseRecognition_eq_some_iff.mp he).symm
    case pool =>
      exact exec_writeTable_stored hs hlen (table hb rfl) (fun _ => hd) (show i < 4 by omega) (hplan ▸ rfl)
        fun e he => (read_replaced _ e poolBytes (by omega)).trans (parsePool_eq_some_iff.mp he).symm
    case reserve =>
      exact exec_writeTable_stored hs hlen (table hb rfl) (fun _ => hd) (show i < 16 by omega) (hplan ▸ rfl)
        fun e he => (read_replaced _ e reserveBytes (by omega)).trans (parseReserve_eq_some_iff.mp he).1.symm
    case matching =>
      have hmatch : s0.matchTable = s.matchTable := State.heard_matchTable _
      exact exec_writeTable_stored hs hlen (table hb rfl) nofun (show i < 24 by omega) (hmatch ▸ rfl)
        fun e he => (read_replaced _ e matchBytes (by omega)).trans (parseMatch_eq_some_iff.mp he).1.symm
    case guard =>
      have hguard : s0.guardTable = s.guardTable := State.heard_guardTable _
      exact exec_writeTable_stored hs hlen (table hb rfl) nofun (show i < 16 by omega) (hguard ▸ rfl)
        fun e he => (read_replaced _ e guardBytes (by omega)).trans (parseGuard_eq_some_iff.mp he).symm
    case schedule =>
      have hschedule : s0.schedule = s.schedule := State.heard_plant_schedule _
      refine exec_writeTable_stored hs hlen (table hb rfl) nofun (show i < 256 by omega) (hschedule ▸ rfl)
        fun e he => ?_
      exact (if_neg (show ¬ i = 256 by omega)).trans
        ((read_replaced _ e rowBytes (by omega)).trans (parseRow_eq_some_iff.mp he).1.symm)
    case counter =>
      obtain ⟨hnone, hsome⟩ := exec_writeTable_stored (bytes := fun _ => data) hs hlen
        (table hb rfl) nofun (show i < 32 by omega) (State.storeEntry_counter hi) fun v hv => by
          rw [State.entryBytes_counter hi, State.writeCounter, State.dutyOf_updDuty_self, Vector.getElem_set_self,
            parseValue_eq_some_iff.mp hv]
      exact ⟨fun hl => hnone (parseValue_badLength hl), fun v hv => hsome v (parseValue_eq_some_iff.mpr hv)⟩
  case range =>
    have hnone : parseControl data = none := by
      refine Option.eq_none_iff_forall_ne_some.mpr fun c hc => ?_
      obtain ⟨hl, hfields, h6⟩ := exists_parseControl_iff.mp ⟨c, hc⟩
      rcases hbad with hl' | ⟨k, hk, hk'⟩ | h4' | h5' | h6'
      · exact hl' hl
      · exact absurd (hfields k (by omega)) (Nat.not_le.mpr hk')
      · exact absurd (hfields 4 (by decide)) (Nat.not_le.mpr h4')
      · exact absurd (hfields 5 (by decide)) (Nat.not_le.mpr h5')
      · exact absurd h6 (Nat.not_le.mpr h6')
    have hu : h.index.toNat = (⟨h.index.toNat, by omega⟩ : UnitNo).val := rfl
    exact (exec_writeTable_owner (t := .counterControl) hs hlen (htable ▸ rfl) nofun (show h.index.toNat < 8 by omega)
      (hu ▸ State.storeEntry_control)).1 hnone
  case control =>
    intro data d
    set c : Control := { event := #v[e0, e1, e2, e3], enable := enable, notify := notify, freezeOnOverflow := fo } with hc
    have hparse : parseControl data = some c := parseControl_eq_some_iff.mpr rfl
    have hd : ((s.heard .plant h.src).writeControl u c).dutyOf u = State.controlled d c := by
      rw [State.writeControl, State.dutyOf_updDuty_self, State.dutyOf_heard]
    refine ⟨(s.heard .plant h.src).writeControl u c, ?_, State.updDuty_const _, ?_, ?_⟩
    · refine (exec_writeTable_stored (t := .counterControl) (bytes := fun c => controlBytes (State.controlled d c)) hs (by simp [data])
        (htable ▸ rfl) nofun (show h.index.toNat < 8 by omega) (hi ▸ State.storeEntry_control) fun c' hc' => ?_).2 c hparse
      obtain rfl : c = c' := Option.some.inj (hparse.symm.trans hc')
      rw [hi, State.entryBytes_control, hd]
    · rw [hd]
      rfl
    · intro n
      rw [hd]
      exact State.accumulator_controlled d c n

end Sys2Proof.Machine
end


section
/-!
PROOFS. Chapters 1, 5 and 10: a write of the station entry moves units and waterways into service and out of it (R2,
R106, R118).
-/

namespace Sys2Proof.Machine

namespace State

variable {s : State} {u : UnitNo} {w : WaterwayNo} {old new : Byte}

/-! ## A unit and a waterway by the counts (R2, R106) -/

theorem unitAfterCount_stays (h : u.val < old.toNat ↔ u.val < new.toNat) : s.unitAfterCount old new u = s.unit u := by
  unfold unitAfterCount
  simp only [h]
  cases decide (u.val < new.toNat) <;> rfl

theorem unitAfterCount_leaves (ho : u.val < old.toNat) (hn : ¬ u.val < new.toNat) :
    s.unitAfterCount old new u = UnitRecord.powerOn (hasUnit s.lines.trip u) none none := by
  unfold unitAfterCount
  simp only [decide_eq_true ho, decide_eq_false hn]
  rfl

theorem unitAfterCount_enters (ho : ¬ u.val < old.toNat) (hn : u.val < new.toNat) :
    s.unitAfterCount old new u =
      UnitRecord.powerOn (hasUnit s.lines.trip u) (some (s.inTenths s.plan.unitEntries[u.val].unitSilence))
        (debounceFrom s.now (hasUnit s.lines.out u) 100) := by
  unfold unitAfterCount
  simp only [decide_eq_true hn, decide_eq_false ho]
  rfl

theorem waterwayAfterCount_stays (h : w.val < old.toNat ↔ w.val < new.toNat) :
    s.waterwayAfterCount old new w = s.waterway w := by
  unfold waterwayAfterCount
  simp only [h]
  cases decide (w.val < new.toNat) <;> rfl

theorem waterwayAfterCount_leaves (ho : w.val < old.toNat) (hn : ¬ w.val < new.toNat) :
    s.waterwayAfterCount old new w = Waterway.powerOn none := by
  unfold waterwayAfterCount
  simp only [decide_eq_true ho, decide_eq_false hn]
  rfl

theorem waterwayAfterCount_enters (ho : ¬ w.val < old.toNat) (hn : w.val < new.toNat) :
    s.waterwayAfterCount old new w =
      Waterway.powerOn (some (s.inTenths s.plan.waterwayEntries[w.val].waterwaySilence)) := by
  unfold waterwayAfterCount
  simp only [decide_eq_true hn, decide_eq_false ho]
  rfl

theorem waterway_applyCounts (e : Station) (w : WaterwayNo) :
    (s.applyCounts e).waterway w = s.waterwayAfterCount s.plan.station.waterwayCount e.waterwayCount w := by
  fin_cases w <;> rfl

theorem mem_entering : u ∈ entering old new ↔ ¬ u.val < old.toNat ∧ u.val < new.toNat := by
  simp [entering, mem_unitNumbers]

/-- A unit that enters service has no transition in flight. -/
theorem transition_applyCounts {e : Station} (h : u ∈ entering s.plan.station.unitCount e.unitCount) :
    ((s.applyCounts e).unit u).transition = none := by
  obtain ⟨ho, hn⟩ := mem_entering.mp h
  rw [unit_applyCounts, unitAfterCount_enters ho hn]
  rfl

/-! ## A trip event of a unit without a transition (R12, R13) -/

theorem waterway_foldl {α : Type} {g : State → α → State} (hg : ∀ t x, (g t x).waterway w = t.waterway w) (l : List α) :
    (l.foldl g s).waterway w = s.waterway w := by
  induction l generalizing s with
  | nil => rfl
  | cons x l ih => exact ih.trans (hg s x)

theorem waterway_sendStatus {tag : Half} {st : Status} {r : Reason} {unit mode : Byte} {o : Origin} :
    (s.sendStatus tag st r unit mode o).waterway w = s.waterway w := waterway_originate _ _ _ _

theorem waterway_waitingFails {spared : Option CutName} {r : Reason} :
    (s.waitingFails u spared r).waterway w = s.waterway w := by
  unfold waitingFails
  extract_lets fails failed
  have hfailed : failed.waterway w = s.waterway w := waterway_foldl (fun _ _ => waterway_sendStatus) _
  split
  · exact hfailed
  · dsimp only
    split
    · exact hfailed
    · exact waterway_sendStatus.trans hfailed

/-- It leaves the waterways and the records of the other units. -/
theorem tripEvent_rest (ht : (s.unit u).transition = none) (d : Half) :
    (∀ w, (s.tripEvent u d).waterway w = s.waterway w) ∧ ∀ v, v ≠ u → (s.tripEvent u d).unit v = s.unit v := by
  have hreport : ∀ t : State, (∀ w, (t.reportTrip u d).waterway w = t.waterway w) ∧
      ∀ v, (t.reportTrip u d).unit v = t.unit v := fun t =>
    ⟨fun w => (waterway_dutyEvent _ w).trans (waterway_sendAlert ..),
      fun v => (unit_dutyEvent _ u v).trans (unit_sendAlert ..)⟩
  by_cases hm : (s.unit u).mode = .tripped
  · rw [tripEvent_tripped hm]
    exact ⟨fun w => rfl, fun v hv => unit_updUnit_of_ne _ hv _⟩
  by_cases ho : (s.unit u).mode = .out
  · rw [tripEvent_out ho]
    exact ⟨fun w => (hreport _).1 w, fun v hv => ((hreport _).2 v).trans (unit_updUnit_of_ne _ hv _)⟩
  · rw [tripEvent_enters hm ho, trippedBy, endTransition_none (by rw [unit_updUnit_self]; exact ht)]
    exact ⟨fun w => ((hreport _).1 w).trans waterway_waitingFails,
      fun v hv => ((hreport _).2 v).trans ((unit_waitingFails_of_ne hv).trans (unit_updUnit_of_ne _ hv _))⟩

theorem waterway_foldl_tripEvent {us : List UnitNo} (hn : us.Nodup) (h : ∀ u ∈ us, (s.unit u).transition = none) :
    (us.foldl (fun s u => s.tripEvent u 0) s).waterway w = s.waterway w := by
  induction us generalizing s with
  | nil => rfl
  | cons u us ih =>
    obtain ⟨hu, hus⟩ := List.nodup_cons.mp hn
    obtain ⟨hwater, hother⟩ := tripEvent_rest (h u List.mem_cons_self) 0
    refine (ih hus fun v hv => ?_).trans (hwater w)
    rw [hother v fun hvu => hu (hvu ▸ hv)]
    exact h v (List.mem_cons_of_mem u hv)

theorem waterway_writeStation (e : Station) (w : WaterwayNo) :
    (s.writeStation e).waterway w = s.waterwayAfterCount s.plan.station.waterwayCount e.waterwayCount w := by
  refine (waterway_foldl_tripEvent ?_ fun u hu => ?_).trans (waterway_applyCounts e w)
  · exact (unitNumbers_nodup.filter _).filter _
  · exact transition_applyCounts (List.mem_of_mem_filter hu)

/-- With no TRIP line of an entering unit asserted, only the records follow the counts. -/
theorem writeStation_untripped {e : Station} (h : ∀ u : UnitNo, s.plan.station.unitCount.toNat ≤ u.val →
    u.val < e.unitCount.toNat → s.lines.trip.getLsbD u.val = false) : s.writeStation e = s.applyCounts e := by
  have hnone : (entering s.plan.station.unitCount e.unitCount).filter (fun u => hasUnit s.lines.trip u) = [] := by
    refine List.filter_eq_nil_iff.mpr fun u hu htrip => ?_
    obtain ⟨ho, hn⟩ := mem_entering.mp hu
    exact absurd (htrip.symm.trans (h u (Nat.le_of_not_lt ho) hn)) nofun
  unfold writeStation
  rw [hnone]
  exact List.foldl_nil

end State

theorem parseStation_length {data : List Byte} {e : Station} (h : parseStation data = some e) : data.length = 16 :=
  (exists_parseStation_iff.mp ⟨e, h⟩).1

/-- Settles O46: the records follow the counts, and a trip event of an entering unit, which has no transition, leaves
the waterways. -/
theorem stationWriteMovesUnitsAndWaterways : Obligations.StationWriteMovesUnitsAndWaterways := by
  intro h data s hs hd htable hindex
  set s0 := s.heard .plant h.src with hs0
  have hplan : s0.plan = s.plan := State.heard_plan _ _
  have hlines : s0.lines = s.lines := State.heard_lines _ _
  have hnow : s0.now = s.now := State.heard_now _ _
  have hwrite : data.length ≤ 60 → (parseStation data = none →
      exec (.writeTable h data) s = .next (s0.replied h 4 .badValue [])) ∧
      ∀ e, parseStation data = some e → exec (.writeTable h data) s =
        .next ((s0.writeStation e).replied h 4 .ok (stationBytes (s0.writeStation e).plan.station)) := fun hlen =>
    exec_writeTable_stored (t := .plant) (bytes := fun e => stationBytes (s0.writeStation e).plan.station) hs hlen
      (htable ▸ rfl) (fun _ => hd) (hindex ▸ by decide) (hindex ▸ rfl) fun e _ => hindex ▸ rfl
  have hstation : ∀ e, parseStation data = some e → exec (.writeTable h data) s =
      .next ((s0.writeStation e).replied h 4 .ok (stationBytes (s0.writeStation e).plan.station)) := fun e he =>
    (hwrite (by rw [parseStation_length he]; decide)).2 e he
  refine ⟨fun hn hlen => (hwrite hlen).1 hn, fun e he hlow => ?_, fun e t he ht w => ?_⟩
  · have happly : s0.writeStation e = s0.applyCounts e := State.writeStation_untripped (by rw [hplan, hlines]; exact hlow)
    rw [hstation e he, happly]
    refine ⟨s0.applyCounts e, rfl, ?_, fun u => ?_⟩
    · rw [← hplan]
      rfl
    · intro was is fresh
      have hunit : (s0.applyCounts e).unit u = s0.unitAfterCount s.plan.station.unitCount e.unitCount u := by
        rw [State.unit_applyCounts, hplan]
      rw [hunit]
      by_cases hw : was
      · by_cases hi : is
        · exact .inl ⟨iff_of_true hw hi, (State.unitAfterCount_stays (iff_of_true hw hi)).trans (State.unit_heard _ _ u)⟩
        · exact .inr (.inl ⟨hw, hi, (State.unitAfterCount_leaves hw hi).trans (by rw [hlines]; rfl)⟩)
      · by_cases hi : is
        · refine .inr (.inr ⟨hw, hi, (State.unitAfterCount_enters hw hi).trans ?_⟩)
          rw [State.inTenths, hlines, hplan, hnow]
          rfl
        · exact .inl ⟨iff_of_false hw hi, (State.unitAfterCount_stays (iff_of_false hw hi)).trans (State.unit_heard _ _ u)⟩
  · intro was is
    obtain rfl : (s0.writeStation e).replied h 4 .ok (stationBytes (s0.writeStation e).plan.station) = t :=
      Host.Outcome.next.inj ((hstation e he).symm.trans ht)
    have hwater : ((s0.writeStation e).replied h 4 .ok (stationBytes (s0.writeStation e).plan.station)).waterway w =
        s0.waterwayAfterCount s.plan.station.waterwayCount e.waterwayCount w := by
      rw [State.replied, State.waterway_originate, State.waterway_writeStation, hplan]
    rw [hwater]
    by_cases hw : was
    · by_cases hi : is
      · exact .inl ⟨iff_of_true hw hi,
          (State.waterwayAfterCount_stays (iff_of_true hw hi)).trans (State.waterway_heard _ _ w)⟩
      · exact .inr (.inl ⟨hw, hi, State.waterwayAfterCount_leaves hw hi⟩)
    · by_cases hi : is
      · refine .inr (.inr ⟨hw, hi, (State.waterwayAfterCount_enters hw hi).trans ?_⟩)
        rw [State.inTenths, hplan, hnow]
        rfl
      · exact .inl ⟨iff_of_false hw hi,
          (State.waterwayAfterCount_stays (iff_of_false hw hi)).trans (State.waterway_heard _ _ w)⟩

end Sys2Proof.Machine
end


section
/-!
PROOFS. Chapter 10: what the read-only views show (R62, R87, R103, R157, R165).
-/

namespace Sys2Proof.Machine

/-! ## Lists of parts of one length -/

/-- Part k begins at k times the length of a part. -/
theorem take_drop_flatMap {α β : Type} {f : α → List β} {n : Nat} (hf : ∀ x, (f x).length = n) {l : List α} {k : Nat}
    {x : α} (h : l[k]? = some x) (rest : List β) : ((l.flatMap f ++ rest).drop (n * k)).take n = f x := by
  induction l generalizing k with
  | nil => exact absurd h nofun
  | cons y l ih =>
    rw [List.flatMap_cons, List.append_assoc]
    cases k with
    | zero =>
      obtain rfl : y = x := Option.some.inj h
      exact List.take_left' (hf y)
    | succ k =>
      have hlen : n * (k + 1) = (f y).length + n * k := by rw [hf, Nat.mul_add_one, Nat.add_comm]
      rw [hlen, List.drop_length_add_append]
      exact ih h

/-- The same behind a head. -/
theorem take_drop_append_flatMap {α β : Type} {f : α → List β} {n m : Nat} (hf : ∀ x, (f x).length = n)
    {head : List β} (hhead : head.length = m) {l : List α} {k : Nat} {x : α} (h : l[k]? = some x) (rest : List β) :
    ((head ++ (l.flatMap f ++ rest)).drop (m + n * k)).take n = f x := by
  subst hhead
  rw [List.drop_length_add_append]
  exact take_drop_flatMap hf h rest

theorem length_flatMap_const {α β : Type} {f : α → List β} {n : Nat} (hf : ∀ x, (f x).length = n) (l : List α) :
    (l.flatMap f).length = n * l.length := by
  simp [List.length_flatMap, hf, Nat.mul_comm]

namespace State

variable {s : State}

theorem length_freeBytes (index offset n : Nat) : (s.freeBytes index offset n).length = n := by simp [freeBytes]

/-! ## Table 16 (R165, R147) -/

/-- LAST_REPORT as a unit record carries it. -/
def reportField : Option Report → List Byte
  | some p => wordBytes p.statusWord ++ halfBytes p.power ++ halfBytes p.speed
  | none => [0, 0, 0, 0, 0, 0, 0, 0]

/-- A pending reserve claim as a unit record carries it. -/
def claimField : Option ReserveClaim → List Byte
  | some c => [natByte (lineNumber c.line), modeCode c.target] ++ halfBytes c.setpoint
  | none => [0xFF, 0, 0, 0]

/-- The bytes of a unit record before those of its hold queue. -/
def unitHead (s : State) (u : UnitNo) : List Byte :=
  [unitModeCode (s.unit u).mode, (s.unit u).flags] ++ halfBytes (silenceRemaining s.now (s.unit u).silenceDeadline) ++
    reportField (s.unit u).lastReport ++ halfBytes (s.unit u).lastSetpoint ++ claimField (s.unit u).reserveClaim ++
    [natByte (s.unit u).holdQueue.length]

/-- What follows the held telegrams in a unit record: free bytes in the room they leave, and the last byte. -/
def unitTail (s : State) (u : UnitNo) : List Byte :=
  s.freeBytes u.val (19 + ((s.unit u).holdQueue.flatMap heldBytes).length)
    (12 - ((s.unit u).holdQueue.flatMap heldBytes).length) ++ [0]

theorem unitRecordBytes_eq (u : UnitNo) :
    s.unitRecordBytes u = s.unitHead u ++ ((s.unit u).holdQueue.flatMap heldBytes ++ s.unitTail u) := by
  have hsplit : s.unitRecordBytes u = s.unitHead u ++ ((s.unit u).holdQueue.flatMap heldBytes ++
      s.freeBytes u.val (19 + ((s.unit u).holdQueue.flatMap heldBytes).length)
        (12 - ((s.unit u).holdQueue.flatMap heldBytes).length)) ++ [0] := by
    unfold unitRecordBytes unitHead
    dsimp only
    cases (s.unit u).lastReport <;> cases (s.unit u).reserveClaim <;> rfl
  rw [hsplit, unitTail, List.append_assoc, List.append_assoc]

theorem entryBytes_unitRecords (u : UnitNo) : s.entryBytes .unitRecords u.val =
    s.unitHead u ++ ((s.unit u).holdQueue.flatMap heldBytes ++ s.unitTail u) :=
  (dif_pos u.isLt).trans (unitRecordBytes_eq u)

theorem length_reportField (r : Option Report) : (reportField r).length = 8 := by cases r <;> rfl

theorem length_claimField (c : Option ReserveClaim) : (claimField c).length = 4 := by cases c <;> rfl

theorem length_unitHead (u : UnitNo) : (s.unitHead u).length = 19 := by
  simp [unitHead, halfBytes, length_reportField, length_claimField]

theorem length_heldBytes (h : Held) : (heldBytes h).length = 3 := rfl

theorem length_unitRecord {u : UnitNo} (h : (s.unit u).holdQueue.length ≤ 4) :
    (s.entryBytes .unitRecords u.val).length = 32 := by
  rw [entryBytes_unitRecords, unitTail]
  simp only [List.length_append, length_unitHead, length_flatMap_const length_heldBytes, length_freeBytes,
    List.length_cons, List.length_nil]
  omega

/-! ## Table 19 (R103) -/

theorem length_waitBytes (e : WaitEntry) : (s.waitBytes e).length = 4 := rfl

theorem length_converterBytes (c : ConverterNo) : (s.converterBytes c).length = 2 := by
  unfold converterBytes
  cases s.converter c <;> rfl

/-- What follows the entries of a wait list in its room. -/
def waitTail (s : State) (index offset : Nat) (l : List WaitEntry) : List Byte :=
  s.freeBytes index (offset + (l.flatMap s.waitBytes).length) (32 - (l.flatMap s.waitBytes).length)

theorem entryBytes_converter (c : ConverterNo) : s.entryBytes .resources c.val =
    (s.converterBytes c ++ [natByte s.converterWait.length]) ++
      (s.converterWait.flatMap s.waitBytes ++ (s.waitTail c.val 3 s.converterWait ++ zeros 9)) := by
  have hview : s.entryBytes .resources c.val = (s.converterBytes c ++ [natByte s.converterWait.length]) ++
      (s.converterWait.flatMap s.waitBytes ++ s.waitTail c.val 3 s.converterWait) ++ zeros 9 := dif_pos c.isLt
  exact hview.trans ((List.append_assoc ..).trans (congrArg _ (List.append_assoc ..)))

/-- The bytes of a waterway's view before those of its wait list. -/
def waterwayHead (s : State) (w : WaterwayNo) : List Byte :=
  [windowByte (s.waterway w).window, holderByte (s.waterway w).window] ++
    halfBytes (settleRemaining s.now (s.waterway w).window) ++
    [boolByte (s.waterway w).alarm, boolByte (s.waterway w).alarmSeen] ++
    halfBytes (waterwaySilenceRemaining s.now (s.waterway w).silenceDeadline) ++
    halfBytes ((s.waterway w).lastLevel.getD 0xFFFF) ++ [natByte (s.waterway w).wait.length]

theorem length_waterwayHead (w : WaterwayNo) : (s.waterwayHead w).length = 11 := rfl

theorem entryBytes_waterway (w : WaterwayNo) : s.entryBytes .resources (2 + w.val) =
    s.waterwayHead w ++ ((s.waterway w).wait.flatMap s.waitBytes ++
      (s.waitTail (2 + w.val) 11 (s.waterway w).wait ++ [0])) := by
  have hw : 2 + w.val - 2 < 2 := by omega
  have hwater : (⟨2 + w.val - 2, hw⟩ : WaterwayNo) = w := Fin.ext (Nat.add_sub_cancel_left ..)
  have hview : s.entryBytes .resources (2 + w.val) = s.waterwayViewBytes w :=
    (dif_neg (by omega)).trans ((dif_pos hw).trans (congrArg s.waterwayViewBytes hwater))
  have hsplit : s.waterwayViewBytes w = s.waterwayHead w ++ ((s.waterway w).wait.flatMap s.waitBytes ++
      s.waitTail (2 + w.val) 11 (s.waterway w).wait) ++ [0] := rfl
  rw [hview, hsplit, List.append_assoc, List.append_assoc]

/-- The rounding of a waterway's silence remaining is free (log 9). -/
theorem waterwaySilenceRemaining_eq (now : Time) (silence : Option Time) :
    (silence = none → waterwaySilenceRemaining now silence = 0xFFFF) ∧
      ∀ d, silence = some d → waterwaySilenceRemaining now silence = natHalf ((d - now) / 100) ∨
        waterwaySilenceRemaining now silence = natHalf ((d - now + 99) / 100) := by
  refine ⟨fun hn => hn ▸ rfl, fun d hd => ?_⟩
  rw [hd]
  by_cases hup : Config.waterwaySilenceRoundsUp = true
  · exact .inr (if_pos hup)
  · exact .inl (if_neg hup)

/-! ## Table 18 (R87) -/

theorem entryBytes_transition (u : UnitNo) : s.entryBytes .transitions u.val = s.transitionBytes u := dif_pos u.isLt

end State

/-- Settles O44: each view is a head of fixed length, then its list of parts, then what fills its room. -/
theorem viewsShowTheState : Obligations.ViewsShowTheState := by
  intro s
  refine ⟨fun u => ?units, fun k o ho => ?order, fun k hk => ?noOrder, fun u x hx => ?transition, fun u hx => ?atRest,
    fun c => ?converter, fun c k e he => ?converterWait, fun w k e he => ?waterwayWait, fun w => ?waterway, fun p => ?ports⟩
  case units =>
    intro r view
    have hview : view = s.unitHead u ++ (r.holdQueue.flatMap State.heldBytes ++ s.unitTail u) :=
      State.entryBytes_unitRecords u
    refine ⟨State.length_unitRecord, ?_, fun k x hx => ?_⟩
    · rw [hview, List.take_left' (State.length_unitHead u)]
      unfold State.unitHead
      dsimp only [r]
      cases (s.unit u).silenceDeadline <;> cases (s.unit u).lastReport <;> cases (s.unit u).reserveClaim <;> rfl
    · rw [hview]
      exact take_drop_append_flatMap State.length_heldBytes (State.length_unitHead u) hx _
  case order =>
    show s.orderBytes k = _
    unfold State.orderBytes
    rw [ho]
    dsimp only
    cases o.target <;> cases o.expiry <;> rfl
  case noOrder =>
    have hview : s.entryBytes .orderQueue k = s.freeBytes k 0 2 ++ [0] ++ s.freeBytes k 3 9 := by
      show s.orderBytes k = _
      unfold State.orderBytes
      rw [hk]
    rw [hview]
    exact ⟨by simp [State.length_freeBytes], rfl⟩
  case transition =>
    intro view
    have hview : view = s.transitionBytes u := State.entryBytes_transition u
    rw [hview]
    unfold State.transitionBytes
    rw [hx]
    dsimp only
    cases x.cut with
    | none => cases x.heldConverter <;> cases x.heldWaterway <;> cases x.phaseState <;> exact ⟨rfl, nofun, rfl⟩
    | some cut =>
      have hcut : ∀ c, some cut = some c → halfBytes cut.tag = halfBytes c.tag := by
        rintro c ⟨⟩
        rfl
      cases x.heldConverter <;> cases x.heldWaterway <;> cases x.phaseState <;> exact ⟨rfl, hcut, rfl⟩
  case atRest =>
    rw [State.entryBytes_transition]
    unfold State.transitionBytes
    rw [hx]
    rfl
  case converter =>
    rw [State.entryBytes_converter, List.take_left' (by simp [State.length_converterBytes])]
    unfold State.converterBytes
    cases s.converter c <;> rfl
  case converterWait =>
    rw [State.entryBytes_converter]
    exact take_drop_append_flatMap State.length_waitBytes (by simp [State.length_converterBytes]) he _
  case waterwayWait =>
    rw [State.entryBytes_waterway]
    exact take_drop_append_flatMap State.length_waitBytes (State.length_waterwayHead w) he _
  case waterway =>
    obtain ⟨hstopped, hruns⟩ := State.waterwaySilenceRemaining_eq s.now (s.waterway w).silenceDeadline
    refine ⟨_, hstopped, hruns, ?_⟩
    rw [State.entryBytes_waterway, List.take_left' (State.length_waterwayHead w), State.waterwayHead]
    have hzero : halfBytes 0 = [0, 0] := by decide
    cases (s.waterway w).window with
    | free =>
      rw [State.settleRemaining, hzero]
      rfl
    | held u =>
      rw [State.settleRemaining, hzero]
      rfl
    | settling d => rfl
  case ports =>
    cases p <;> rfl

end Sys2Proof.Machine
end


section
/-!
PROOFS. Chapter 7: COMMIT and its checks of the plan tables (R36 to R39, R49, R109, R120, R121).
-/

namespace Sys2Proof.Machine

/-! ## The first failing check (R120) -/

/-- The outcome of a walk over checks `Q` by table and index: the first that fails, or none. -/
def FirstFails (Q : Nat → Nat → Prop) : Option (Nat × Nat) → Prop
  | none => ∀ t i, Q t i
  | some (table, index) => ¬ Q table index ∧ ∀ t i, t < table ∨ (t = table ∧ i < index) → Q t i

theorem FirstFails.unique {Q : Nat → Nat → Prop} {x y : Option (Nat × Nat)} (hx : FirstFails Q x)
    (hy : FirstFails Q y) : x = y := by
  cases x with
  | none =>
    cases y with
    | none => rfl
    | some q => exact absurd (hx _ _) hy.1
  | some p =>
    cases y with
    | none => exact absurd (hy _ _) hx.1
    | some q =>
      obtain ⟨t, i⟩ := p
      obtain ⟨t', i'⟩ := q
      have hnot : ¬ (t < t' ∨ (t = t' ∧ i < i')) := fun h => hx.1 (hy.2 t i h)
      have hnot' : ¬ (t' < t ∨ (t' = t ∧ i' < i)) := fun h => hy.1 (hx.2 t' i' h)
      obtain rfl : t = t' := by omega
      obtain rfl : i = i' := by omega
      rfl

theorem firstFailing_eq_none {n : Nat} {ok : Fin n → Bool} (h : State.firstFailing ok = none) (i : Fin n) :
    ok i = true := by
  have hnone := List.find?_eq_none.mp (Option.map_eq_none_iff.mp h) i (List.mem_finRange i)
  simpa using hnone

theorem firstFailing_eq_some {n k : Nat} {ok : Fin n → Bool} (h : State.firstFailing ok = some k) :
    ∃ i : Fin n, i.val = k ∧ ok i = false ∧ ∀ j, j < i → ok j = true := by
  obtain ⟨i, hi, hk⟩ := Option.map_eq_some_iff.mp h
  rw [← Fin.find?_eq_find?_finRange, Fin.find?_eq_some_iff] at hi
  obtain ⟨hfails, hfirst⟩ := hi
  exact ⟨i, hk, by simpa using hfails, fun j hj => by simpa using hfirst j hj⟩

section

variable {Q : Nat → Nat → Prop} {n table : Nat} {ok : Fin n → Bool}

/-- The checks of the tables before pass, and one of this table fails. -/
theorem firstFails_at {k : Nat} (hlow : ∀ t, t < table → ∀ i, Q t i) (hok : ∀ i : Fin n, ok i = true ↔ Q table i.val)
    (h : State.firstFailing ok = some k) : FirstFails Q (some (table, k)) := by
  obtain ⟨i, rfl, hi, hfirst⟩ := firstFailing_eq_some h
  refine ⟨fun hq => absurd (hi.symm.trans ((hok i).mpr hq)) nofun, fun t j hj => ?_⟩
  rcases hj with ht | ⟨rfl, hj⟩
  · exact hlow t ht j
  · exact (hok ⟨j, hj.trans i.isLt⟩).mp (hfirst _ hj)

/-- Every check of this table passes too. -/
theorem passed_table (hlow : ∀ t, t < table → ∀ i, Q t i) (hok : ∀ i : Fin n, ok i = true ↔ Q table i.val)
    (hbeyond : ∀ i, n ≤ i → Q table i) (h : State.firstFailing ok = none) : ∀ t, t < table + 1 → ∀ i, Q t i := by
  intro t ht i
  rcases Nat.lt_succ_iff_lt_or_eq.mp ht with ht | rfl
  · exact hlow t ht i
  · by_cases hi : i < n
    · exact (hok ⟨i, hi⟩).mp (firstFailing_eq_none h _)
    · exact hbeyond i (Nat.le_of_not_lt hi)

end

namespace State

variable {s : State}

/-! ## The rule of each table (R36 to R39, R49, R109, R121) -/

/-- R36. -/
def RouteValid (s : State) (r : Fin 32) : Prop :=
  s.plan.routes[r.val].fromMode ≠ s.plan.routes[r.val].toMode ∧ s.plan.routes[r.val].units ≠ 0 ∧
    (∀ u : UnitNo, s.plan.routes[r.val].units.getLsbD u.val = true → u.val < s.plan.station.unitCount.toNat) ∧
    s.plan.routes[r.val].firstPhase.val + s.plan.routes[r.val].phaseCount ≤ 128

/-- KEEP of the phase before number k of route r. -/
def keptBefore (s : State) (r : Fin 32) (k : Nat) : Resources := if k = 1 then .none else (s.phaseAt r (k - 1)).keep

/-- R38 and R39, for the phase at number k of route r. -/
def PhaseValid (s : State) (r : Fin 32) (k : Nat) : Prop :=
  let p := s.phaseAt r k
  let kept := s.keptBefore r k
  p.command ≠ 0 ∧ p.statusMask ≠ 0 ∧ p.timeLimit ≠ 0 ∧
    (k = s.plan.routes[r.val].phaseCount → p.landing = s.plan.routes[r.val].toMode ∧ p.keep = .none) ∧
    (s.plan.station.converterCount = 0 → p.claim.hasConverter = false) ∧
    (p.keep.hasConverter = true → p.claim.hasConverter = true ∨ kept.hasConverter = true) ∧
    (p.keep.hasWaterway = true → p.claim.hasWaterway = true ∨ kept.hasWaterway = true) ∧
    ¬ (kept.hasWaterway = true ∧ p.claim.hasConverter = true ∧ kept.hasConverter = false)

/-- Entry i of plan table t satisfies its rule; there is none to satisfy past a table's end. -/
def Passes (s : State) (t i : Nat) : Prop :=
  (t = 1 → i = 0 → s.plan.station.abortCommand ≠ 0 ∧ s.plan.station.setpointCommand ≠ 0) ∧
  (∀ u : UnitNo, t = 1 → i = 1 + u.val → u.val < s.plan.station.unitCount.toNat →
    s.plan.unitEntries[u.val].waterway.val < s.plan.station.waterwayCount.toNat) ∧
  (∀ r : Fin 32, t = 2 → i = r.val → s.plan.routes[r.val].enabled = true → s.RouteValid r) ∧
  (∀ (r : Fin 32) (k : Nat), t = 3 → s.plan.routes[r.val].enabled = true → 1 ≤ k →
    k ≤ s.plan.routes[r.val].phaseCount → i + 1 = s.plan.routes[r.val].firstPhase.val + k → s.PhaseValid r k) ∧
  (∀ n : Fin 12, t = 4 → i = n.val → s.plan.recognition[n.val].enabled = true →
    s.plan.recognition[n.val].mask ≠ 0 ∧ s.plan.recognition[n.val].mode.val ≤ 5) ∧
  (∀ (n : Fin 4) (u : UnitNo), t = 5 → i = n.val → s.plan.pools[n.val].members.getLsbD u.val = true →
    u.val < s.plan.station.unitCount.toNat) ∧
  (∀ (line : ReserveLine) (u : UnitNo) (e : ReserveEntry) (m n : Mode), t = 6 →
    i = 8 * lineNumber line + u.val → s.plan.reserve[i]? = some e → u.val < s.plan.station.unitCount.toNat →
    e.target = some n → e.apply.getLsbD (modeCode m).toNat = true → m ≠ n → s.lookupRoute u m n ≠ none)

theorem passes_other {t i : Nat} (h : t < 1 ∨ 7 ≤ t) : s.Passes t i := by
  refine ⟨?_, ?_, ?_, ?_, ?_, ?_, ?_⟩ <;> intros <;> omega

theorem passes_plant {i : Nat} : s.Passes 1 i ↔
    (i = 0 → s.plan.station.abortCommand ≠ 0 ∧ s.plan.station.setpointCommand ≠ 0) ∧
      ∀ u : UnitNo, i = 1 + u.val → u.val < s.plan.station.unitCount.toNat →
        s.plan.unitEntries[u.val].waterway.val < s.plan.station.waterwayCount.toNat := by
  simp [Passes]

theorem passes_route {i : Nat} : s.Passes 2 i ↔
    ∀ r : Fin 32, i = r.val → s.plan.routes[r.val].enabled = true → s.RouteValid r := by
  simp [Passes]

theorem passes_phase {i : Nat} : s.Passes 3 i ↔ ∀ (r : Fin 32) (k : Nat), s.plan.routes[r.val].enabled = true →
    1 ≤ k → k ≤ s.plan.routes[r.val].phaseCount → i + 1 = s.plan.routes[r.val].firstPhase.val + k →
    s.PhaseValid r k := by
  simp [Passes]

theorem passes_recognition {i : Nat} : s.Passes 4 i ↔
    ∀ n : Fin 12, i = n.val → s.plan.recognition[n.val].enabled = true →
      s.plan.recognition[n.val].mask ≠ 0 ∧ s.plan.recognition[n.val].mode.val ≤ 5 := by
  simp [Passes]

theorem passes_pool {i : Nat} : s.Passes 5 i ↔
    ∀ (n : Fin 4) (u : UnitNo), i = n.val → s.plan.pools[n.val].members.getLsbD u.val = true →
      u.val < s.plan.station.unitCount.toNat := by
  simp [Passes]

theorem passes_reserve {i : Nat} : s.Passes 6 i ↔
    ∀ (line : ReserveLine) (u : UnitNo) (e : ReserveEntry) (m n : Mode),
      i = 8 * lineNumber line + u.val → s.plan.reserve[i]? = some e → u.val < s.plan.station.unitCount.toNat →
      e.target = some n → e.apply.getLsbD (modeCode m).toNat = true → m ≠ n → s.lookupRoute u m n ≠ none := by
  simp [Passes]

/-! ## The checks test the rules -/

/-- A check that applies only where a flag stands. -/
theorem guarded_iff {a b : Bool} : (!a || b) = true ↔ (a = true → b = true) := by
  cases a <;> simp

theorem unitInService_iff {u : UnitNo} : s.unitInService u = true ↔ u.val < s.plan.station.unitCount.toNat :=
  decide_eq_true_iff

theorem plantEntryOk_iff (i : Fin 11) : s.plantEntryOk i = true ↔ s.Passes 1 i.val := by
  rw [passes_plant]
  unfold plantEntryOk
  split
  next h0 =>
    have hno : ∀ u : UnitNo, 0 ≠ 1 + u.val := fun u => by omega
    simp [h0, hno]
  next h0 =>
    split
    next h8 =>
      dsimp only
      rw [guarded_iff, unitInService_iff, decide_eq_true_iff]
      refine ⟨fun h => ⟨fun hi => absurd hi h0, fun u hu => ?_⟩, fun h => h.2 ⟨i.val - 1, h8⟩ (by dsimp only; omega)⟩
      obtain rfl : u = ⟨i.val - 1, h8⟩ := Fin.ext (by dsimp only; omega)
      exact h
    next h8 =>
      have hno : ∀ u : UnitNo, i.val ≠ 1 + u.val := fun u => by omega
      simp [h0, hno]

theorem routeOk_iff (r : Fin 32) : s.routeOk r = true ↔ s.Passes 2 r.val := by
  have hok : s.routeOk r = true ↔ (s.plan.routes[r.val].enabled = true → s.RouteValid r) := by
    unfold routeOk
    dsimp only
    rw [guarded_iff]
    refine imp_congr_right fun _ => ?_
    simp only [RouteValid, Bool.and_eq_true, decide_eq_true_eq, List.all_eq_true, mem_unitNumbers, true_imp_iff,
      guarded_iff, hasUnit, unitInService_iff, and_assoc]
  rw [hok, passes_route]
  refine ⟨fun h q hq => ?_, fun h => h r rfl⟩
  obtain rfl : r = q := Fin.ext hq
  exact h

theorem contains_iff {r : Route} {i : Nat} : Route.contains r i = true ↔
    r.enabled = true ∧ r.firstPhase.val ≤ i ∧ i < r.firstPhase.val + r.phaseCount := by
  simp only [Route.contains, Bool.and_eq_true, decide_eq_true_eq, and_assoc]

/-- Phase i of the table, in a route from FIRST_PHASE on, is the phase at its number of the route. -/
theorem phaseOkIn_iff {i : Fin 128} {r : Fin 32} (h : s.plan.routes[r.val].firstPhase.val ≤ i.val) :
    s.phaseOkIn i r = true ↔ s.PhaseValid r (i.val - s.plan.routes[r.val].firstPhase.val + 1) := by
  have hindex : s.plan.routes[r.val].firstPhase.val + (i.val - s.plan.routes[r.val].firstPhase.val + 1) - 1 = i.val := by
    omega
  have hphase : s.phaseAt r (i.val - s.plan.routes[r.val].firstPhase.val + 1) = s.plan.phases[i.val] := by
    rw [phaseAt, hindex, Vector.getElem?_eq_getElem i.isLt]
    rfl
  have hkept : ∀ k, s.keptIn r (k + 1) = s.keptBefore r (k + 1) := fun k =>
    if_congr (by omega) rfl rfl
  unfold phaseOkIn PhaseValid
  dsimp only
  rw [hphase, hkept]
  simp only [Bool.and_eq_true, decide_eq_true_eq, Bool.or_eq_true, Bool.not_eq_true',
    Bool.and_eq_false_iff, decide_eq_false_iff_not, and_assoc]
  grind

theorem phaseOk_iff (i : Fin 128) : s.phaseOk i = true ↔ s.Passes 3 i.val := by
  have hok : s.phaseOk i = true ↔ ∀ r : Fin 32, Route.contains s.plan.routes[r.val] i.val = true → s.phaseOkIn i r = true := by
    simp only [phaseOk, List.all_eq_true, List.mem_finRange, true_imp_iff, guarded_iff]
  rw [hok, passes_phase]
  constructor
  · intro h r k he h1 hk hi
    have hk' : k = i.val - s.plan.routes[r.val].firstPhase.val + 1 := by omega
    exact hk' ▸ (phaseOkIn_iff (by omega)).mp (h r (contains_iff.mpr ⟨he, by omega, by omega⟩))
  · intro h r hc
    obtain ⟨he, hfirst, hlast⟩ := contains_iff.mp hc
    exact (phaseOkIn_iff hfirst).mpr (h r _ he (by omega) (by omega) (by omega))

theorem recognitionOk_iff (i : Fin 12) : s.recognitionOk i = true ↔ s.Passes 4 i.val := by
  have hok : s.recognitionOk i = true ↔ (s.plan.recognition[i.val].enabled = true →
      s.plan.recognition[i.val].mask ≠ 0 ∧ s.plan.recognition[i.val].mode.val ≤ 5) := by
    unfold recognitionOk
    dsimp only
    rw [guarded_iff]
    simp only [Bool.and_eq_true, decide_eq_true_eq]
  rw [hok, passes_recognition]
  refine ⟨fun h n hn => ?_, fun h => h i rfl⟩
  obtain rfl : i = n := Fin.ext hn
  exact h

theorem poolOk_iff (i : Fin 4) : s.poolOk i = true ↔ s.Passes 5 i.val := by
  have hok : s.poolOk i = true ↔ ∀ u : UnitNo, s.plan.pools[i.val].members.getLsbD u.val = true →
      u.val < s.plan.station.unitCount.toNat := by
    simp only [poolOk, List.all_eq_true, mem_unitNumbers, true_imp_iff, guarded_iff, hasUnit, unitInService_iff]
  rw [hok, passes_pool]
  refine ⟨fun h n u hn => ?_, fun h u => h i u rfl⟩
  obtain rfl : i = n := Fin.ext hn
  exact h u

theorem mem_allModes (m : Mode) : m ∈ allModes := by cases m <;> decide

theorem reserveOk_iff (i : Fin 16) : s.reserveOk i = true ↔ s.Passes 6 i.val := by
  have hmod : i.val % 8 < 8 := Nat.mod_lt _ (by decide)
  have hok : s.reserveOk i = true ↔ (i.val % 8 < s.plan.station.unitCount.toNat →
      ∀ n, s.plan.reserve[i.val].target = some n → ∀ m : Mode,
        s.plan.reserve[i.val].apply.getLsbD (modeCode m).toNat = true → m ≠ n →
          s.lookupRoute ⟨i.val % 8, hmod⟩ m n ≠ none) := by
    unfold reserveOk
    dsimp only
    rw [guarded_iff, unitInService_iff]
    refine imp_congr_right fun _ => ?_
    cases s.plan.reserve[i.val].target with
    | none => simp
    | some n =>
      simp only [List.all_eq_true, mem_allModes, true_imp_iff, Option.some.injEq, forall_eq']
      refine forall_congr' fun m => ?_
      rw [Bool.or_assoc, guarded_iff, Bool.or_eq_true, decide_eq_true_iff, Option.isSome_iff_ne_none]
      exact imp_congr_right fun _ => Decidable.or_iff_not_imp_left
  rw [hok, passes_reserve]
  constructor
  · intro h line u e m n hi he hu hn hm hmn
    have huval : u.val = i.val % 8 := by cases line <;> simp only [lineNumber] at hi <;> omega
    obtain rfl : u = ⟨i.val % 8, hmod⟩ := Fin.ext huval
    obtain rfl : s.plan.reserve[i.val] = e := Option.some.inj ((Vector.getElem?_eq_getElem i.isLt).symm.trans he)
    exact h hu n hn m hm hmn
  · intro h hu n hn m hm hmn
    have hline : ∃ line, i.val = 8 * lineNumber line + i.val % 8 := by
      by_cases h8 : i.val < 8
      · exact ⟨.a, by simp only [lineNumber]; omega⟩
      · exact ⟨.b, by simp only [lineNumber]; omega⟩
    obtain ⟨line, hi⟩ := hline
    exact h line ⟨i.val % 8, hmod⟩ _ m n hi (Vector.getElem?_eq_getElem i.isLt) hu hn hm hmn

/-- With every route within the phase table, no phase lies past its end (R36). -/
theorem passes_phase_beyond (h : ∀ i, s.Passes 2 i) {i : Nat} (hi : 128 ≤ i) : s.Passes 3 i := by
  refine passes_phase.mpr fun r k he h1 hk hik => ?_
  obtain ⟨_, _, _, hend⟩ := passes_route.mp (h r.val) r rfl he
  omega

theorem firstFails_commitWalk : FirstFails s.Passes s.commitWalk := by
  have h1 : ∀ t, t < 1 → ∀ i, s.Passes t i := fun t ht i => passes_other (.inl ht)
  unfold commitWalk
  split
  next i hi => exact firstFails_at h1 plantEntryOk_iff hi
  next hplant =>
  have h2 := passed_table h1 plantEntryOk_iff (fun i hi => passes_plant.mpr ⟨by omega, by omega⟩) hplant
  split
  next i hi => exact firstFails_at h2 routeOk_iff hi
  next hroute =>
  have h3 := passed_table h2 routeOk_iff (fun i hi => passes_route.mpr fun r => by omega) hroute
  split
  next i hi => exact firstFails_at h3 phaseOk_iff hi
  next hphase =>
  have h4 := passed_table h3 phaseOk_iff (fun i hi => passes_phase_beyond (h3 2 (by decide)) hi) hphase
  split
  next i hi => exact firstFails_at h4 recognitionOk_iff hi
  next hrecognition =>
  have h5 := passed_table h4 recognitionOk_iff (fun i hi => passes_recognition.mpr fun n => by omega) hrecognition
  split
  next i hi => exact firstFails_at h5 poolOk_iff hi
  next hpool =>
  have h6 := passed_table h5 poolOk_iff (fun i hi => passes_pool.mpr fun n u => by omega) hpool
  split
  next i hi => exact firstFails_at h6 reserveOk_iff hi
  next hreserve =>
  have h7 := passed_table h6 reserveOk_iff (fun i hi => passes_reserve.mpr fun line u => by
    cases line <;> simp only [lineNumber] <;> omega) hreserve
  intro t i
  by_cases ht : t < 7
  · exact h7 t ht i
  · exact passes_other (.inr (Nat.le_of_not_lt ht))

theorem commitWalk_eq_iff {x : Option (Nat × Nat)} : s.commitWalk = x ↔ FirstFails s.Passes x :=
  ⟨fun h => h ▸ firstFails_commitWalk, fun h => firstFails_commitWalk.unique h⟩

theorem commitWalk_heard (src : Byte) : (s.heard .plant src).commitWalk = s.commitWalk := by
  obtain ⟨counters, deadline, h⟩ := heard_plant_eq (s := s) src
  rw [h]
  rfl

/-! ## COMMIT (R120, R160) -/

variable {r : Request}

theorem commit_badValue (hd : r.data ≠ []) : s.commit r = (s, .bad .badValue) := if_pos hd

theorem commit_wrongState (hd : r.data = []) (h : s.dispatcher ≠ .unplanned) : s.commit r = (s, .bad .wrongState) := by
  rw [commit, if_neg (not_not.mpr hd), if_pos h]

theorem commit_failed {table index : Nat} (hd : r.data = []) (h : s.dispatcher = .unplanned)
    (hw : s.commitWalk = some (table, index)) :
    s.commit r = (s, { result := .commitFailed, data := [natByte table] ++ halfBytes (natHalf index) }) := by
  rw [commit, if_neg (not_not.mpr hd), if_neg (not_not.mpr h), hw]

theorem commit_ok (hd : r.data = []) (h : s.dispatcher = .unplanned) (hw : s.commitWalk = none) :
    s.commit r = (({ s with dispatcher := .directed } : State).startMasterSilence, .ok []) := by
  rw [commit, if_neg (not_not.mpr hd), if_neg (not_not.mpr h), hw]

end State

theorem exec_commit {h : RequestHead} {data : List Byte} {s : State} (hs : s.TakesRequests) (hd : data.length ≤ 60) :
    exec (.commit h data) s = .next (State.answer h.tag 5 h.index
      ((s.heard .plant h.src).commit { table := h.table, index := h.index, data := data })) :=
  congrArg Host.Outcome.next (takeRequest_answered hs hd (by decide))

/-- Settles O48: the walk finds the first entry that fails its rule, and there is only one such entry
(`FirstFails.unique`). -/
theorem commitChecksThePlan : Obligations.CommitChecksThePlan := by
  refine ⟨fun s => State.commitWalk_eq_iff.trans ⟨fun h => ?passes, fun h => ?checks⟩,
    fun s table index => State.commitWalk_eq_iff, fun h data s hs hlen => ?commit⟩
  case passes =>
    refine ⟨(State.passes_plant.mp (h 1 0)).1 rfl, fun u hu => (State.passes_plant.mp (h 1 (1 + u.val))).2 u rfl hu,
      fun r hr => State.passes_route.mp (h 2 r.val) r rfl hr, fun r k hr h1 hk => ?_,
      fun i hi => State.passes_recognition.mp (h 4 i.val) i rfl hi,
      fun i u hu => State.passes_pool.mp (h 5 i.val) i u rfl hu,
      fun line u e m n he hu hn hm hmn => State.passes_reserve.mp (h 6 _) line u e m n rfl he hu hn hm hmn⟩
    exact State.passes_phase.mp (h 3 (s.plan.routes[r.val].firstPhase.val + k - 1)) r k hr h1 hk (by omega)
  case checks =>
    obtain ⟨hcommands, hunits, hroutes, hphases, hrecognition, hpools, hreserve⟩ := h
    intro t i
    exact ⟨fun _ _ => hcommands, fun u _ _ hu => hunits u hu, fun r _ _ hr => hroutes r hr,
      fun r k _ hr h1 hk _ => hphases r k hr h1 hk, fun n _ _ hn => hrecognition n hn, fun n u _ _ hu => hpools n u hu,
      fun line u e m n _ hi he hu hn hm hmn => hreserve line u e m n (hi ▸ he) hu hn hm hmn⟩
  case commit =>
    intro s0
    have hdisp : s0.dispatcher = s.dispatcher := State.heard_dispatcher _ _
    have hplan : s0.plan = s.plan := State.heard_plan _ _
    have hwalk : s0.commitWalk = s.commitWalk := State.commitWalk_heard h.src
    rw [exec_commit hs hlen]
    refine ⟨fun hd => ?_, fun hd => ⟨fun hne => ?_, fun hun => ⟨fun table index hw => ?_, fun hw => ?_⟩⟩⟩
    · rw [State.commit_badValue hd]
      rfl
    · rw [State.commit_wrongState hd (hdisp ▸ hne)]
      rfl
    · rw [State.commit_failed hd (hdisp.trans hun) (hwalk.trans hw)]
      rfl
    · rw [State.commit_ok hd (hdisp.trans hun) (hwalk.trans hw), State.startMasterSilence]
      refine congrArg (fun d => Host.Outcome.next
        (({ s0 with dispatcher := .directed, masterDeadline := d } : State).replied h 5 .ok [])) ?_
      rw [State.inTenths]
      dsimp only
      rw [hplan, show s0.now = s.now from State.heard_now _ _]

end Sys2Proof.Machine
end


section
/-!
PROOFS. What the events of a unit leave of the others, and the events about claims of the units (R1, R126).
-/

namespace Sys2Proof.Machine

/-! ## What an event of one unit leaves -/

/-- From s to t, of the Unit Monitor's records only that of unit u changed, no order came in, and the tables, the links,
the alarms, the reserve lines and the dispatcher are as they were, but for the end of a drain. -/
structure Confined (u : UnitNo) (s t : State) : Prop where
  tables : s.KeepsTablesAndLinks t
  units : ∀ v, v ≠ u → s.KeepsUnit v t
  alarms : s.KeepsAlarms t
  orders : t.orders.Sublist s.orders
  ageCount : t.ageCount = s.ageCount
  reserveA : t.reserveA = s.reserveA
  reserveB : t.reserveB = s.reserveB
  masterSilenceSeen : t.masterSilenceSeen = s.masterSilenceSeen
  control : t.dispatcher = s.dispatcher ∧ t.program = s.program ∨ s.dispatcher = .draining ∧ t.dispatcher = .unplanned

theorem Judged.confined {u : UnitNo} {s t : State} (h : Judged u s t) (hm : Moves false s t) : Confined u s t :=
  ⟨h.tables, h.units, h.alarms, hm.orders_sublist.1, hm.orders_sublist.2, h.reserveA, h.reserveB, h.masterSilenceSeen,
    .inl ⟨h.dispatcher, h.program⟩⟩

theorem Keeps.confined {s t : State} (h : Keeps s t) (hm : Moves false s t) (u : UnitNo) : Confined u s t :=
  (h.judged u).confined hm

namespace Confined

variable {u : UnitNo} {s t v : State}

theorem refl (u : UnitNo) (s : State) : Confined u s s := (Keeps.refl s).confined .refl u

theorem trans (h : Confined u s t) (h' : Confined u t v) : Confined u s v where
  tables := KeepsTables.trans h.tables h'.tables
  units w hw := KeepsUnit.trans (h.units w hw) (h'.units w hw)
  alarms := KeepsAlarms.trans h.alarms h'.alarms
  orders := h'.orders.trans h.orders
  ageCount := h'.ageCount.trans h.ageCount
  reserveA := h'.reserveA.trans h.reserveA
  reserveB := h'.reserveB.trans h.reserveB
  masterSilenceSeen := h'.masterSilenceSeen.trans h.masterSilenceSeen
  control := by
    rcases h.control with ⟨hd, hp⟩ | ⟨hd, hn⟩
    · rcases h'.control with ⟨hd', hp'⟩ | ⟨hd', hn'⟩
      · exact .inl ⟨hd'.trans hd, hp'.trans hp⟩
      · exact .inr ⟨hd.symm.trans hd', hn'⟩
    · rcases h'.control with ⟨hd', _⟩ | ⟨hd', _⟩
      · exact .inr ⟨hd, hd'.trans hn⟩
      · exact absurd (hn.symm.trans hd') nofun

theorem updUnit (f : UnitRecord → UnitRecord) : Confined u s (s.updUnit u f) := by
  refine ⟨⟨rfl, rfl, rfl, rfl, rfl, rfl, rfl, rfl, rfl, fun p => by simp, fun _ => ⟨rfl, rfl, rfl, rfl, rfl⟩⟩,
    fun v hv => ?_, keepsAlarms_refl s, .refl _, rfl, rfl, rfl, rfl, .inl ⟨rfl, rfl⟩⟩
  unfold State.KeepsUnit
  rw [State.unit_updUnit_of_ne _ hv]
  exact ⟨rfl, rfl, rfl, rfl, rfl, rfl, rfl, rfl, rfl⟩

theorem withLines (lines : Lines) : Confined u s { s with lines := lines } :=
  ⟨keepsTables_refl s, fun v _ => keepsUnit_refl v s, keepsAlarms_refl s, .refl _, rfl, rfl, rfl, rfl, .inl ⟨rfl, rfl⟩⟩

theorem originate (p : PortName) (x : Telegram) : Confined u s (s.originate p x) :=
  (Keeps.originate p x).confined (State.calm_originate x).moves u

theorem forwardTo (p : PortName) (x : Telegram) : Confined u s (s.forwardTo p x) :=
  (Keeps.forwardTo p x).confined (State.calm_forwardTo x).moves u

theorem updCounters (p : PortName) (f : Counters → Counters) : Confined u s (s.updCounters p f) :=
  (Keeps.updCounters p f).confined (State.calm_updCounters f).moves u

theorem startAttempt (w : UnitNo) : Confined u s (s.startAttempt w) :=
  (inert_keeps.startAttempt (inert_keeps.refl s)).confined State.moves_startAttempt u

/-- The end of a drain is the one change of the dispatcher that an event of a unit brings (R126). -/
theorem drainCheck : Confined u s s.drainCheck := by
  unfold State.drainCheck
  split
  · next h =>
    have hends : Confined u s ({ s with dispatcher := .unplanned } : State).stopProgram :=
      ⟨keepsTables_refl s, fun v _ => keepsUnit_refl v s, keepsAlarms_refl s, .refl _, rfl, rfl, rfl, rfl,
        .inr ⟨h.1, rfl⟩⟩
    exact hends.trans (originate _ _)
  · exact refl u s

theorem heard (p : PortName) (src : Byte) : Confined u s (s.heard p src) := by
  unfold State.heard
  extract_lets s1
  have h1 : Confined u s s1 := updCounters _ _
  split
  · exact h1.trans ⟨keepsTables_refl s1, fun v _ => keepsUnit_refl v s1, keepsAlarms_refl s1, .refl _, rfl, rfl, rfl, rfl,
      .inl ⟨rfl, rfl⟩⟩
  · exact h1

/-! ## The events of a unit -/

theorem changeMode (m : UnitMode) : Confined u s (s.changeMode u m) :=
  (Judged.changeMode m).confined (State.calm_changeMode m).moves

theorem endTransition (st : Status) (r : Reason) (byTrip : Bool) : Confined u s (s.endTransition u st r byTrip) :=
  (inert_keeps.endTransition (inert_keeps.refl s)).confined (State.moves_endTransition _ _ _) u

theorem tripAndAttempt (d : Half) : Confined u s (s.tripAndAttempt u d) := by
  unfold State.tripAndAttempt
  extract_lets s1
  have h1 : Confined u s s1 := (Judged.tripEvent d).confined (State.moves_tripEvent d)
  split
  · exact h1.trans (startAttempt u)
  · exact h1

theorem tripInputSet : Confined u s (s.tripInputSet u) := by
  unfold State.tripInputSet
  extract_lets was s1
  have h1 : Confined u s s1 := (withLines _).trans (updUnit _)
  split
  · exact (h1.trans (tripAndAttempt 0)).trans drainCheck
  · exact h1

theorem enterOut : Confined u s (s.enterOut u) := by
  unfold State.enterOut
  extract_lets s1 s2
  have h1 : Confined u s s1 := ((changeMode _).trans (endTransition _ _ _)).trans
    ((inert_keeps.failQueued (inert_keeps.refl _)).confined (State.moves_failQueued _ _) u)
  have h2 : Confined u s s2 :=
    h1.trans ((inert_keeps.failReserve (inert_keeps.refl s1)).confined (State.moves_failReserve _ _) u)
  split
  · exact h2.trans (startAttempt u)
  · exact h2

theorem writeOutSource (f : UnitRecord → UnitRecord) : Confined u s (s.writeOutSource u f) := by
  unfold State.writeOutSource
  extract_lets s1
  have h1 : Confined u s s1 := updUnit f
  split
  · exact h1.trans enterOut
  · exact h1.trans (changeMode _)
  · exact h1
  · exact h1

theorem outInputTakes (b : Bool) : Confined u s (s.outInputTakes u b) := by
  unfold State.outInputTakes
  extract_lets s1
  have h1 : Confined u s s1 := withLines _
  split
  · exact ((h1.trans (updUnit _)).trans (writeOutSource _)).trans drainCheck
  · exact h1

theorem timeoutPhase (x : Transition) : Confined u s (s.timeoutPhase u x) := by
  unfold State.timeoutPhase
  extract_lets s1 s2 s3 s4
  have h2 : Confined u s s2 := (originate _ _).trans (changeMode _)
  have h4 : Confined u s s4 := (h2.trans (originate _ _)).trans
    ((inert_keeps.dutyEvent (inert_keeps.refl s3)).confined (State.calm_dutyEvent _).moves u)
  exact h4.trans (endTransition _ _ _)

theorem phaseExpires : Confined u s (s.phaseExpires u) := by
  unfold State.phaseExpires
  split
  · exact refl u s
  · split
    · exact (inert_keeps.retryPhase (inert_keeps.refl s)).confined (State.calm_retryPhase _).moves u
    · exact ((timeoutPhase _).trans (startAttempt u)).trans drainCheck

theorem waitExpires : Confined u s (s.waitExpires u) :=
  ((endTransition _ _ _).trans (startAttempt u)).trans drainCheck

theorem unitFallsSilent : Confined u s (s.unitFallsSilent u) := (updUnit _).trans (originate _ _)

theorem whenDue {due : Bool} {f : State → State} (h : Confined u s (f s)) : Confined u s (s.whenDue due f) := by
  unfold State.whenDue
  split
  · exact h
  · exact refl u s

theorem commonReport (rep : Report) : Confined u s (s.commonReport u rep) := by
  have hends : ∀ x : State, Confined u x (x.endSilence u) := by
    intro x
    unfold State.endSilence
    split
    · exact (updUnit _).trans (originate _ _)
    · exact refl u x
  exact ((updUnit _).trans (hends _)).trans (updUnit _)

theorem readUnitReport (rep : Report) : Confined u s (s.readUnitReport u rep) := by
  unfold State.readUnitReport
  have h1 : Confined u s ((s.commonReport u rep).reportByCondition u rep.statusWord).1 :=
    (commonReport rep).trans ((Judged.reportByCondition _).confined (State.moves_reportByCondition _))
  dsimp only
  split
  · exact (h1.trans (startAttempt u)).trans drainCheck
  · exact h1.trans drainCheck

theorem takeUnitReport {x : Telegram} (hu : ∀ v, s.unitAt x.src = some v → v = u) :
    Confined u s (s.takeUnitReport x) := by
  unfold State.takeUnitReport
  split
  · next v rep hv _ =>
    obtain rfl := hu v hv
    exact readUnitReport rep
  · exact refl u s
  · exact refl u s

theorem unitIndex_val {i : Half} {w : UnitNo} (h : s.unitIndex i = some w) : w.val = i.toNat := by
  unfold State.unitIndex at h
  split_ifs at h
  cases h
  rfl

theorem setOut {r : Request} (hu : r.index.toNat = u.val) : Confined u s (s.setOut r).1 := by
  unfold State.setOut
  split
  · exact refl u s
  next w hw =>
  obtain rfl : w = u := Fin.ext ((unitIndex_val hw).trans hu)
  split
  · split
    · exact refl w s
    · split
      · exact refl w s
      · exact (writeOutSource _).trans drainCheck
  · exact refl w s

theorem forceMode {r : Request} (hu : r.index.toNat = u.val) : Confined u s (s.forceMode r).1 := by
  unfold State.forceMode
  split
  · exact refl u s
  next w hw =>
  obtain rfl : w = u := Fin.ext ((unitIndex_val hw).trans hu)
  split
  · split
    · exact refl w s
    · split
      · exact ((changeMode _).trans (startAttempt w)).trans drainCheck
      · exact refl w s
  · exact refl w s

end Confined

/-! ## What the other events of the claims leave -/

/-- From s to t, nothing that the Unit Monitor keeps changed, nor the tables, the links and the alarms, nor the reserve
lines but the one that the event is about. -/
structure Spared (line : Option ReserveLine) (s t : State) : Prop where
  tables : s.KeepsTablesAndLinks t
  units : ∀ v, s.KeepsUnit v t
  alarms : s.KeepsAlarms t
  reserveA : line ≠ some .a → t.reserveA = s.reserveA
  reserveB : line ≠ some .b → t.reserveB = s.reserveB

theorem Keeps.spared {s t : State} (h : Keeps s t) (line : Option ReserveLine) : Spared line s t :=
  ⟨h.tables, h.units, h.alarms, fun _ => h.reserveA, fun _ => h.reserveB⟩

namespace Spared

variable {line : Option ReserveLine} {s t v : State}

theorem refl (line : Option ReserveLine) (s : State) : Spared line s s := (Keeps.refl s).spared line

theorem trans (h : Spared line s t) (h' : Spared line t v) : Spared line s v where
  tables := KeepsTables.trans h.tables h'.tables
  units w := KeepsUnit.trans (h.units w) (h'.units w)
  alarms := KeepsAlarms.trans h.alarms h'.alarms
  reserveA hl := (h'.reserveA hl).trans (h.reserveA hl)
  reserveB hl := (h'.reserveB hl).trans (h.reserveB hl)

/-- The end of a chain of changes may be one that keeps everything. -/
theorem keeps (h : Spared line s t) (h' : Keeps t v) : Spared line s v := h.trans (h'.spared line)

/-- A change of Dispatcher Control's own state and of the levels of the lines alone. -/
theorem control {lines dispatcher masterDeadline masterSilenceSeen program} :
    Spared line s { s with
      lines := lines, dispatcher := dispatcher, masterDeadline := masterDeadline
      masterSilenceSeen := masterSilenceSeen, program := program } :=
  ⟨keepsTables_refl s, fun v => keepsUnit_refl v s, keepsAlarms_refl s, fun _ => rfl, fun _ => rfl⟩

theorem originate (p : PortName) (x : Telegram) : Spared line s (s.originate p x) := (Keeps.originate p x).spared line

theorem heard (p : PortName) (src : Byte) : Spared line s (s.heard p src) := by
  unfold State.heard
  extract_lets s1
  have h1 : Spared line s s1 := (Keeps.updCounters _ _).spared line
  split
  · exact h1.trans control
  · exact h1

theorem stopProgram : Spared line s s.stopProgram := control

theorem drainCheck : Spared line s s.drainCheck := by
  unfold State.drainCheck
  split
  · exact (control (s := s) (dispatcher := .unplanned)).trans (originate _ _)
  · exact refl line s

theorem beginRow (r : Byte) : Spared line s (s.beginRow r) := by
  unfold State.beginRow
  extract_lets row s1
  have h1 : Spared line s s1 := control
  split
  · exact h1.keeps (inert_keeps.scheduleClaims (inert_keeps.refl s1))
  · exact h1

theorem endRow : Spared line s s.endRow := by
  unfold State.endRow
  split
  · exact Spared.trans (t := { s with program := { s.program with run := _, pendingRun := none } }) control (beginRow _)
  · split
    · exact beginRow _
    · split
      · exact beginRow _
      · exact stopProgram

theorem fallSilent : Spared line s s.fallSilent := by
  unfold State.fallSilent
  extract_lets s1 n s2 s3
  have h3 : Spared line s s3 := (control (s := s)).keeps
    (inert_keeps.sendAlert (inert_keeps.withdrawAndAttempt (inert_keeps.refl s1)))
  split
  · split
    · exact h3.keeps (inert_keeps.scheduleClaims (inert_keeps.refl s3))
    · exact h3
  · exact h3

theorem returnDirected : Spared line s s.returnDirected := by
  unfold State.returnDirected
  extract_lets s1 s2 n s3
  exact (control (s := s)).keeps (inert_keeps.sendAlert (inert_keeps.withdrawAndAttempt (inert_keeps.refl s2)))

theorem judgeOrder (tag : Half) (o : OrderFields) : Keeps s (s.judgeOrder tag o) := by
  unfold State.judgeOrder
  split
  · exact Keeps.originate _ _
  · split
    · exact Keeps.originate _ _
    · exact inert_keeps.queueOrder (inert_keeps.refl s)

theorem takeOrder (tag : Half) (payload : List Byte) : Spared line s (s.takeOrder tag payload) := by
  unfold State.takeOrder
  split
  · exact originate _ _
  · split
    · exact originate _ _
    · exact originate _ _
    · exact (judgeOrder _ _).spared line
    · exact returnDirected.keeps (judgeOrder _ _)

/-- An assertion event touches its own line alone (R107, R111). -/
theorem lineAsserts (l : ReserveLine) : Spared (some l) s (s.lineAsserts l) := by
  have hline : ∀ (x : State) (f : ReserveState → ReserveState), Spared (some l) x (x.updReserveLine l f) := by
    intro x f
    cases l with
    | a => exact ⟨keepsTables_refl x, fun v => keepsUnit_refl v x, keepsAlarms_refl x, fun h => absurd rfl h, fun _ => rfl⟩
    | b => exact ⟨keepsTables_refl x, fun v => keepsUnit_refl v x, keepsAlarms_refl x, fun _ => rfl, fun h => absurd rfl h⟩
  have hlevel : Spared (some l) s (s.setReserveLine l true) := by cases l <;> exact control
  have hassert : ∀ x : State, Spared (some l) x (x.assertLine l) := by
    intro x
    unfold State.assertLine
    split
    · exact originate _ _
    · exact Spared.trans ((inert_keeps.actOnClaims (inert_keeps.sendAlert (inert_keeps.formClaims
        (inert_keeps.refl x)))).spared _) drainCheck
  unfold State.lineAsserts
  extract_lets was s1
  have h1 : Spared (some l) s s1 := hlevel.trans (hline _ _)
  split
  · exact h1
  · exact (h1.trans (hline _ _)).trans (hassert _)

theorem endSettling (w : WaterwayNo) : Keeps s (s.endSettling w) :=
  inert_keeps.serveWindow (Keeps.updWaterway ⟨rfl, rfl, rfl, rfl⟩)

theorem withdrawPlan : Spared line s s.withdrawPlan := by
  have h1 : Spared line s s.planWithdrawn := (control (s := s)).keeps State.keeps_planWithdrawn
  by_cases hn : s.planWithdrawn.nothingLeft = true
  · rw [State.withdrawPlan_done hn]
    exact h1.trans control
  · rw [State.withdrawPlan_drains hn]
    exact h1

theorem whenDue {due : Bool} {f : State → State} (h : Spared line s (f s)) : Spared line s (s.whenDue due f) := by
  unfold State.whenDue
  split
  · exact h
  · exact refl line s

/-! ## The requests about the plan, the orders and the program -/

variable {r : Request}

theorem commit : Spared line s (s.commit r).1 := by
  unfold State.commit
  split
  · exact refl line s
  · split
    · exact refl line s
    · split
      · exact refl line s
      · exact control

theorem uncommit : Spared line s (s.uncommit r).1 := by
  unfold State.uncommit
  split
  · exact refl line s
  · split
    · exact withdrawPlan
    · exact refl line s

theorem purgeOrder : Spared line s (s.purgeOrder r).1 := by
  unfold State.purgeOrder
  split
  · exact refl line s
  · dsimp only
    split
    · exact refl line s
    · exact Keeps.spared (inert_keeps.foldl (fun o h => inert_keeps.attemptFor h) _
        (inert_keeps.withdrawOrders (inert_keeps.refl s))) line

theorem programStart : Spared line s (s.programStart r).1 := by
  unfold State.programStart
  split
  · exact refl line s
  · split
    · exact refl line s
    · split
      · exact refl line s
      · exact Spared.trans control (beginRow _)

theorem programRenew : Spared line s (s.programRenew r).1 := by
  unfold State.programRenew
  split
  · exact refl line s
  · split
    · exact refl line s
    · split
      · exact refl line s
      · exact control

theorem programStop : Spared line s (s.programStop r).1 := by
  unfold State.programStop
  split
  · exact refl line s
  · exact stopProgram

end Spared

/-! ## Arrivals, received or not -/

theorem takeTelegram_cases (p : PortName) (x : Telegram) (s : State) :
    s.takeTelegram p x = s ∨ s.takeTelegram p x = s.countMalformed p ∨
      s.takeTelegram p x = (s.heard p x.src).routeTelegram p x := by
  by_cases hl : s.Receives p
  · by_cases hlen : x.payload.length ≤ 64
    · exact .inr (.inr (takeTelegram_up hl hlen))
    · exact .inr (.inl (takeTelegram_long hl (Nat.lt_of_not_le hlen)))
  · exact .inl (takeTelegram_unreceived hl)

/-- A request other than RESET either is not taken, or acts on what its arrival leaves and is answered. -/
theorem takeRequest_cases {h : RequestHead} {code : Byte} {data : List Byte} {s : State} (hp : s.resetPending = false)
    (hc : code ≠ 16) : s.takeRequest h code data = s ∨ s.takeRequest h code data = s.countMalformed .plant ∨
      s.takeRequest h code data = State.answer h.tag code h.index
        ((s.heard .plant h.src).handle code { table := h.table, index := h.index, data := data }) := by
  by_cases hl : s.plantPort.link = true
  · by_cases hd : data.length ≤ 60
    · exact .inr (.inr (takeRequest_answered ⟨hl, hp⟩ hd hc))
    · refine .inr (.inl (takeTelegram_long (receives_plant hl) ?_))
      rw [requestTelegram_payload]
      simp only [List.length_cons]
      omega
  · exact .inl (takeTelegram_unreceived fun h => hl h.1)

theorem confined_request {u : UnitNo} {h : RequestHead} {code : Byte} {data : List Byte} {s : State}
    (hp : s.resetPending = false) (hc : code ≠ 16) (hact : ∀ x : State, Confined u x
      (x.handle code { table := h.table, index := h.index, data := data }).1) :
    Confined u s (s.takeRequest h code data) := by
  rcases takeRequest_cases (h := h) (data := data) hp hc with heq | heq | heq <;> rw [heq]
  · exact .refl u s
  · exact .updCounters _ _
  · exact ((Confined.heard _ _).trans (hact _)).trans (.originate _ _)

theorem spared_request {line : Option ReserveLine} {h : RequestHead} {code : Byte} {data : List Byte} {s : State}
    (hp : s.resetPending = false) (hc : code ≠ 16) (hact : ∀ x : State, Spared line x
      (x.handle code { table := h.table, index := h.index, data := data }).1) :
    Spared line s (s.takeRequest h code data) := by
  rcases takeRequest_cases (h := h) (data := data) hp hc with heq | heq | heq <;> rw [heq]
  · exact .refl line s
  · exact (Keeps.updCounters _ _).spared line
  · exact ((Spared.heard _ _).trans (hact _)).trans (.originate _ _)

theorem confined_unitReport {u : UnitNo} {dst src : Byte} {ident tag : Half} {payload : List Byte} {s : State}
    (hu : ∀ v, s.unitAt src = some v → v = u) :
    Confined u s (s.takeTelegram .unit (unitReportTelegram dst src ident tag payload)) := by
  rcases takeTelegram_cases .unit (unitReportTelegram dst src ident tag payload) s with heq | heq | heq <;> rw [heq]
  · exact .refl u s
  · exact .updCounters _ _
  · exact ((Confined.heard _ _).trans (.takeUnitReport fun v hv => hu v ((State.unitAt_heard src src).symm.trans hv))).trans
      (.forwardTo _ _)

theorem spared_dispatchOrder {line : Option ReserveLine} {src : Byte} {ident tag : Half} {payload : List Byte} {s : State} :
    Spared line s (s.takeTelegram .plant (orderTelegram src ident tag payload)) := by
  rcases takeTelegram_cases .plant (orderTelegram src ident tag payload) s with heq | heq | heq <;> rw [heq]
  · exact .refl line s
  · exact (Keeps.updCounters _ _).spared line
  · exact (Spared.heard _ _).trans (.takeOrder _ _)

/-- Settles O54: what each event touches is the unit's own record (`Confined`) or no record at all (`Spared`), and
both compose. -/
theorem eventsLeaveTheRest : Obligations.EventsLeaveTheRest := by
  constructor
  · intro c u s t hc ht
    have hconfined : Confined u s t := by
      have hexec : ∀ {x : State}, exec c s = .next x → Confined u s x → Confined u s t := fun hx h =>
        Host.Outcome.next.inj (hx.symm.trans ht) ▸ h
      rcases hc with hc | ⟨dst, src, ident, tag, payload, rfl, hu⟩ | ⟨h, data, hc, hs, hu⟩
      · simp only [List.mem_cons, List.not_mem_nil, or_false] at hc
        rcases hc with rfl | rfl | rfl | rfl | rfl | rfl | rfl
        · exact hexec rfl .tripInputSet
        · exact hexec rfl ((Confined.withLines _).trans (.updUnit _))
        · exact hexec rfl (.outInputTakes true)
        · exact hexec rfl (.outInputTakes false)
        · exact hexec rfl (.whenDue .unitFallsSilent)
        · exact hexec rfl (.whenDue .phaseExpires)
        · exact hexec rfl (.whenDue .waitExpires)
      · exact hexec rfl (confined_unitReport hu)
      · rcases hc with rfl | rfl
        · exact hexec rfl (confined_request hs.2 (by decide) fun x => Confined.setOut hu)
        · exact hexec rfl (confined_request hs.2 (by decide) fun x => Confined.forceMode hu)
    exact ⟨hconfined.tables, hconfined.units, hconfined.alarms, hconfined.orders, hconfined.ageCount, hconfined.reserveA,
      hconfined.reserveB, hconfined.masterSilenceSeen, hconfined.control⟩
  · intro c s t hc ht
    have hexec : ∀ {line x}, exec c s = .next x → Spared line s x → Spared line s t := fun hx h =>
      Host.Outcome.next.inj (hx.symm.trans ht) ▸ h
    have hall : Spared none s t → s.KeepsTablesAndLinks t ∧ (∀ v, s.KeepsUnit v t) ∧ s.KeepsAlarms t ∧
        (c ≠ .assertionEvent .a → t.reserveA = s.reserveA) ∧ (c ≠ .assertionEvent .b → t.reserveB = s.reserveB) :=
      fun h => ⟨h.tables, h.units, h.alarms, fun _ => h.reserveA nofun, fun _ => h.reserveB nofun⟩
    rcases hc with hc | ⟨w, rfl⟩ | ⟨k, rfl⟩ | ⟨src, ident, tag, payload, rfl⟩ | ⟨h, data, hp, hc⟩
    · simp only [List.mem_cons, List.not_mem_nil, or_false] at hc
      rcases hc with rfl | rfl | rfl | rfl
      · exact hall (hexec rfl (.whenDue .fallSilent))
      · exact hall (hexec rfl (.whenDue .endRow))
      · have ha := hexec (line := some .a) rfl (.lineAsserts .a)
        exact ⟨ha.tables, ha.units, ha.alarms, fun hne => absurd rfl hne, fun _ => ha.reserveB nofun⟩
      · have hb := hexec (line := some .b) rfl (.lineAsserts .b)
        exact ⟨hb.tables, hb.units, hb.alarms, fun _ => hb.reserveA nofun, fun hne => absurd rfl hne⟩
    · exact hall (hexec rfl (.whenDue ((Spared.endSettling w).spared none)))
    · exact hall (hexec rfl ((inert_keeps.expireOrder (inert_keeps.refl s)).spared none))
    · exact hall (hexec rfl spared_dispatchOrder)
    · rcases hc with rfl | rfl | rfl | rfl | rfl | rfl
      · exact hall (hexec rfl (spared_request hp (by decide) fun x => Spared.commit))
      · exact hall (hexec rfl (spared_request hp (by decide) fun x => Spared.uncommit))
      · exact hall (hexec rfl (spared_request hp (by decide) fun x => Spared.purgeOrder))
      · exact hall (hexec rfl (spared_request hp (by decide) fun x => Spared.programStart))
      · exact hall (hexec rfl (spared_request hp (by decide) fun x => Spared.programRenew))
      · exact hall (hexec rfl (spared_request hp (by decide) fun x => Spared.programStop))

end Sys2Proof.Machine
end
